-- ==== Sys2Proof/Word.lean ====
section
/-! DEFINITION. The word types (00_scope.md R8): every bus byte, command byte and input byte is 8 bits, a nibble is
4 bits, a bus device address is 7 bits (20_memory.md R50). -/

namespace Sys2Proof

/-- A bus byte, a command byte or an input byte of `write` (R8). -/
abbrev Byte := BitVec 8

/-- Half of a logical byte (R8). -/
abbrev Nibble := BitVec 4

/-- A device address on the 2-wire bus (R50). -/
abbrev BusAddr := BitVec 7

end Sys2Proof
end

