-- ==== Sys2Proof/Config.lean ====
section
/-! DEFINITION. The OPEN parameters of 00_scope.md R7 (log entry 10) and the free values, each an opaque constant: nothing can
evaluate one, so a claim about it holds for every value. The parameters with fixed values are in Machine/Params.lean. -/

namespace Sys2Proof

/-! ## OPEN parameters -/

/-- `DEV_ADDR` (D25, U1): the expander's bus address. -/
opaque Config.devAddr : BusAddr

/-- `INIT_LAST_RS` (D9, U2): the register-select level held at construction. -/
opaque Config.initLastRS : Bool

/-- `T_SETTLE_1` (D12, U3), in microseconds. -/
opaque Config.settle1 : Nat

/-- `T_SETTLE_2` (D12, U3), in microseconds. -/
opaque Config.settle2 : Nat

/-! ## Free values -/

/-- The bus's answer at close number `k` where the script in State has run out (R5, D23; log entry 5). -/
opaque Config.busAnswer : Nat → Bool

/-- Free value number `k`, the source of the draws of 60_exceptions.md R213 (log entry 6). -/
opaque Config.freeNat : Nat → Nat

/-- The DisplayState fields before `initialize` (10_state.md R34, U7; log entry 9). -/
opaque Config.preColumns : Nat
/-- See `Config.preColumns`. -/
opaque Config.preLines : Nat
/-- See `Config.preColumns`. -/
opaque Config.preEntryMode : Byte
/-- See `Config.preColumns`. -/
opaque Config.preDisplayControl : Byte
/-- See `Config.preColumns`. -/
opaque Config.preCursorRow : Nat
/-- See `Config.preColumns`. -/
opaque Config.preCursorCol : Nat

/-- What a row outside `ROW_OFFSET` would read: reached in no run (40_display_state.md R112, "requires r < 4"; log
entry 19). -/
opaque Config.rowOffsetBeyond : Nat → BitVec 7

/-- Which reason a `createChar` call gets when both its slot and its pattern are out of domain: the spec gives both
reasons and no order (60_exceptions.md R211; log entry 18). -/
opaque Config.patternCheckedFirst : Bool

end Sys2Proof
end

