-- ==== Sys2Proof/Machine/Params.lean ====
section
/-! DEFINITION. The fixed parameters of 00_scope.md R7, each a named constant with the value the spec decides on (log entry 22). The
OPEN ones are in Config.lean. -/

namespace Sys2Proof

/-- `INIT_BACKLIGHT` (D8). -/
def Config.initBacklight : Int := 0

/-- `BIT_RS`, `BIT_RW`, `BIT_EN`, `BIT_BL` (D3): positions of the control lines in the frame byte. -/
def Config.bitRS : Nat := 0
/-- See `Config.bitRS`. -/
def Config.bitRW : Nat := 1
/-- See `Config.bitRS`. -/
def Config.bitEN : Nat := 2
/-- See `Config.bitRS`. -/
def Config.bitBL : Nat := 3

/-- `ROW_OFFSET[0..3]` (D6, 10_state.md R28): a constant table, not a formula. -/
def Config.rowOffsets : List (BitVec 7) := [0x00#7, 0x40#7, 0x14#7, 0x54#7]

/-- `EM_ID` (D4, R23): increment, that is left-to-right. -/
def Config.emID : Byte := 0x02#8
/-- `EM_S` (D4, R23): autoscroll. -/
def Config.emS : Byte := 0x01#8

/-- `DC_D` (D5, R24): display on. -/
def Config.dcD : Byte := 0x04#8
/-- `DC_C` (D5, R24): cursor on. -/
def Config.dcC : Byte := 0x02#8
/-- `DC_B` (D5, R24): blink on. -/
def Config.dcB : Byte := 0x01#8

/-- `DEFAULT_ENTRY` (D7): left-to-right, no autoscroll. -/
def Config.defaultEntry : Byte := 0x02#8
/-- `DEFAULT_DC` (D7): display on, cursor off, blink off. -/
def Config.defaultDC : Byte := 0x04#8

/-- `FUNCSET_BASE` (D10). -/
def Config.funcsetBase : Byte := 0x20#8
/-- `FUNCSET_N` (D10): two-line flag. -/
def Config.funcsetN : Byte := 0x08#8

/-- `NIBBLE_4BIT` (D11): the lone nibble that forces 4-bit mode. -/
def Config.nibble4bit : Nibble := 0x2#4

/-- `MAX_COLUMNS` (D16). -/
def Config.maxColumns : Nat := 255
/-- `MAX_LINES` (D16): the rows of `ROW_OFFSET`. -/
def Config.maxLines : Nat := 4
/-- `ARG_MAX` (D17): the largest column, row or slot argument. -/
def Config.argMax : Nat := 255
/-- `LEVEL_MIN` (D17). -/
def Config.levelMin : Int := -32768
/-- `LEVEL_MAX` (D17). -/
def Config.levelMax : Int := 32767

/-- Pattern rows of one custom glyph (42_character_sink.md R190). -/
def Config.patternRows : Nat := 8

end Sys2Proof
end

