-- ==== Sys2Proof/Syntax.lean ====
section
/-! DEFINITION. The instructions: one constructor per row of opcode_table.json, in the table's order. Host operations take
the arguments of 30_encoding.md R91 as integers, so that a call outside its domain can be written and is refused (D17,
U11; log entry 17); a `createChar` pattern is a list, so that a wrong length can be written and is refused (U12). The rows
of the other formats take the fields of their bit patterns. -/

namespace Sys2Proof

/-- One row of opcode_table.json. -/
inductive Instr where
  /-- `initialize c, l` (40_display_state.md R127). -/
  | initializeBlock (columns lines : Int)
  /-- `reinitialize` (R126). -/
  | reinitialize
  /-- `home` (R113). -/
  | home
  /-- `setCursor col, row` (R111). -/
  | setCursor (col row : Int)
  /-- `displayOn` (R114). -/
  | displayOn
  /-- `displayOff` (R115). -/
  | displayOff
  /-- `cursorOn` (R116). -/
  | cursorOn
  /-- `cursorOff` (R117). -/
  | cursorOff
  /-- `blinkOn` (R118). -/
  | blinkOn
  /-- `blinkOff` (R119). -/
  | blinkOff
  /-- `leftToRight` (R120). -/
  | leftToRight
  /-- `rightToLeft` (R121). -/
  | rightToLeft
  /-- `autoscrollOn` (R122). -/
  | autoscrollOn
  /-- `autoscrollOff` (R123). -/
  | autoscrollOff
  /-- `scrollLeft` (R124). -/
  | scrollLeft
  /-- `scrollRight` (R125). -/
  | scrollRight
  /-- `setBacklight level` (42_character_sink.md R192). -/
  | setBacklight (level : Int)
  /-- `createChar slot, p0, …, p7` (R190). -/
  | createChar (slot : Int) (pattern : List Byte)
  /-- `write ch` (R180). -/
  | write (ch : Byte)
  /-- Input byte REINIT, 0x01 (R182). -/
  | charReinit
  /-- Input byte HOME, 0x02 (R183). -/
  | charHome
  /-- Input byte CLREOL, 0x03 (R184). -/
  | charClrEol
  /-- Input byte CR, 0x0D (R185). -/
  | charCr
  /-- Input byte LF, 0x0A (R186). -/
  | charLf
  /-- Input byte GLYPH, any other value `c` (R187). -/
  | charGlyph (c : Byte)
  /-- Controller command Clear, `00000001` (30_encoding.md R82). -/
  | cmdClear
  /-- Controller command Entry Mode Set, `000001is` (R85). -/
  | cmdEntryModeSet (i s : Bool)
  /-- Controller command Display Control, `00001dcb` (R86). -/
  | cmdDisplayControl (d c b : Bool)
  /-- Controller command Shift (display), `00011r00` (R82). -/
  | cmdDisplayShift (r : Bool)
  /-- Controller command Function Set, `0010n000` (R87). -/
  | cmdFunctionSet (n : Bool)
  /-- Controller command Set CGRAM address, `01sss000` (R84). -/
  | cmdSetCgramAddr (s : BitVec 3)
  /-- Controller command Set DDRAM address, `1aaaaaaa` (R83). -/
  | cmdSetDdramAddr (a : BitVec 7)
  /-- Null command, `00000000` (R82). -/
  | cmdNull
  /-- The 4-bit force nibble, `0010`, one nibble (R82, 41_nibble_transport.md R153). -/
  | cmdForceNibble
  /-- One frame byte, `nnnnbe0r` (30_encoding.md R80). -/
  | frame (n : Nibble) (b e r : Bool)
  /-- Internal `writeNibble(n, isData)` (41_nibble_transport.md R151). -/
  | writeNibble (n : Nibble) (isData : Bool)
  /-- Internal `send(value, isData)` (R152). -/
  | send (value : Byte) (isData : Bool)
  /-- Internal `sendNibble(n)` (R153). -/
  | sendNibble (n : Nibble)
  deriving DecidableEq, Repr

/-- The five formats of opcode_table.json. -/
inductive Format where
  | hostOp | charIn | ctrlCmd | frame | internal
  deriving DecidableEq, Repr

/-- The format an instruction's row has in opcode_table.json. -/
def Instr.format : Instr → Format
  | .initializeBlock _ _ | .reinitialize | .home | .setCursor _ _ | .displayOn | .displayOff | .cursorOn | .cursorOff
  | .blinkOn | .blinkOff | .leftToRight | .rightToLeft | .autoscrollOn | .autoscrollOff | .scrollLeft | .scrollRight
  | .setBacklight _ | .createChar _ _ | .write _ => .hostOp
  | .charReinit | .charHome | .charClrEol | .charCr | .charLf | .charGlyph _ => .charIn
  | .cmdClear | .cmdEntryModeSet _ _ | .cmdDisplayControl _ _ _ | .cmdDisplayShift _ | .cmdFunctionSet _
  | .cmdSetCgramAddr _ | .cmdSetDdramAddr _ | .cmdNull | .cmdForceNibble => .ctrlCmd
  | .frame _ _ _ _ => .frame
  | .writeNibble _ _ | .send _ _ | .sendNibble _ => .internal

/-- What the host can hand the block: a host operation, or a byte to `write` (00_scope.md R3 (e), R91, R90). The other rows
are what the block itself does. -/
def Instr.fromHost (i : Instr) : Bool :=
  i.format == .hostOp || i.format == .charIn

end Sys2Proof
end

