-- ==== Sys2Proof/Machine/Operands.lean ====
section
/-! DEFINITION. Operands: the argument domains of the host operations (30_encoding.md R91), the bit fields of a byte, the
frame byte (R80, 41_nibble_transport.md R150), the two address calculators (40_display_state.md R112,
42_character_sink.md R191) and the command bytes (30_encoding.md R82 to R87). -/

namespace Sys2Proof.Machine

/-! ## Argument domains -/

/-- `1 ≤ c ≤ MAX_COLUMNS ∧ 1 ≤ l ≤ MAX_LINES` (R127, D16). -/
def geometryInDomain (c l : Int) : Bool :=
  decide (1 ≤ c) && decide (c ≤ Config.maxColumns) && decide (1 ≤ l) && decide (l ≤ Config.maxLines)

/-- A column, row or slot argument in 0..255 (D17). -/
def argInDomain (a : Int) : Bool :=
  decide (0 ≤ a) && decide (a ≤ Config.argMax)

/-- A backlight level in -32768..32767 (D17). -/
def levelInDomain (level : Int) : Bool :=
  decide (Config.levelMin ≤ level) && decide (level ≤ Config.levelMax)

/-- A custom glyph pattern of exactly 8 bytes (D17). -/
def patternInDomain (p : List Byte) : Bool :=
  p.length == Config.patternRows

/-! ## Nibbles and frames -/

/-- `v[7:4]` (00_scope.md R9, 30_encoding.md R89). -/
def highNibble (v : Byte) : Nibble := v.extractLsb' 4 4

/-- `v[3:0]` (R9, R89). -/
def lowNibble (v : Byte) : Nibble := v.extractLsb' 0 4

/-- One control line of the frame: `1 << k` where the line is on. -/
def controlLine (k : Nat) (on : Bool) : Byte := if on then 1#8 <<< k else 0#8

/-- The frame of R150: `(n << 4) | (bl ? 1 << BIT_BL : 0) | (rs ? 1 << BIT_RS : 0)`. -/
def frameByte (bl : Bool) (n : Nibble) (rs : Bool) : Byte :=
  ((n.zeroExtend 8) <<< 4) ||| controlLine Config.bitBL bl ||| controlLine Config.bitRS rs

/-- The strobe-high variant of a frame: `f | (1 << BIT_EN)` (R151). -/
def strobeHigh (f : Byte) : Byte := f ||| controlLine Config.bitEN true

/-! ## Address calculators -/

/-- `ROW_OFFSET[r]` (10_state.md R28). The calculator is called with `r < 4` only; other rows are free (log entry 19). -/
def rowOffset (r : Nat) : BitVec 7 :=
  match Config.rowOffsets[r]? with
  | some o => o
  | none => Config.rowOffsetBeyond r

/-- `trunc8(v) = v mod 256` (00_scope.md R9). -/
def trunc8 (v : Nat) : Byte := BitVec.ofNat 8 v

/-- `ddramCmd(c, r) = trunc8(0x80 | (ROW_OFFSET[r] + c))` (40_display_state.md R112, D19). -/
def ddramCmd (c r : Nat) : Byte := trunc8 (0x80 ||| ((rowOffset r).toNat + c))

/-- `cgramCmd(s) = 0x40 | ((s & 7) << 3)` (42_character_sink.md R191). -/
def cgramCmd (s : Nat) : Byte := trunc8 (0x40 ||| ((s &&& 7) <<< 3))

/-! ## Command bytes -/

/-- Clear, 0x01 (30_encoding.md R82). -/
def clearCmd : Byte := 0x01#8

/-- `0x04 | entryMode` (R85). -/
def entryModeCmd (entryMode : Byte) : Byte := 0x04#8 ||| entryMode

/-- `0x08 | displayControl` (R86). -/
def displayControlCmd (displayControl : Byte) : Byte := 0x08#8 ||| displayControl

/-- `FUNCSET_BASE | (lines > 1 ? FUNCSET_N : 0)` (R87). -/
def functionSetCmd (lines : Nat) : Byte :=
  Config.funcsetBase ||| (if lines > 1 then Config.funcsetN else 0#8)

/-- The fixed command of `scrollLeft` (40_display_state.md R124). -/
def scrollLeftCmd : Byte := 0x1C#8

/-- The fixed command of `scrollRight` (R125). -/
def scrollRightCmd : Byte := 0x18#8

/-- The content-free command of `setBacklight` (42_character_sink.md R192). -/
def nullCmd : Byte := 0x00#8

/-- The space of the 0x03 fill (42_character_sink.md R184, D26). -/
def spaceChar : Byte := 0x20#8

end Sys2Proof.Machine
end

