-- ==== Sys2Proof/Machine/Flags.lean ====
section
/-! DEFINITION. Flags. The block has no condition codes (10_state.md R31). Its flags are the bits of `entryMode` and
`displayControl`, each set or cleared to the value the operation's name states (D22), and the backlight bit that every
frame computes from `backlightLevel` (R26). `lastRS` is written by the transport (Ops.lean). -/

namespace Sys2Proof.Machine

/-- `v | m`: the mutators "on" (40_display_state.md R114, R116, R118, R120, R122). -/
def withFlag (m v : Byte) : Byte := v ||| m

/-- `v & ~m` with `~` the 8-bit complement: the mutators "off" (R115, R117, R119, R121, R123). -/
def withoutFlag (m v : Byte) : Byte := v &&& ~~~m

/-- `backlightLevel > 0` (10_state.md R26): a level of 0 or below de-asserts. -/
def backlightOn (level : Int) : Bool := decide (level > 0)

end Sys2Proof.Machine
end

