-- ==== Sys2Proof/WellFormed.lean ====
section
/-! DEFINITION. Well-formed instructions: the arguments lie in the domains of 30_encoding.md R91 (D16, D17), and a GLYPH
byte is none of the five escape bytes (R90). Every other field is bounded by its type. The tests on one argument are in
Machine/Operands.lean. -/

namespace Sys2Proof

/-- The five input bytes of R90 that are no glyph. -/
def escapeBytes : List Byte := [0x01#8, 0x02#8, 0x03#8, 0x0D#8, 0x0A#8]

/-- The instruction's operands lie in their domains. -/
def Instr.wellFormed : Instr → Bool
  | .initializeBlock c l => Machine.geometryInDomain c l
  | .setCursor col row => Machine.argInDomain col && Machine.argInDomain row
  | .setBacklight level => Machine.levelInDomain level
  | .createChar slot p => Machine.argInDomain slot && Machine.patternInDomain p
  | .charGlyph c => !escapeBytes.contains c
  | .reinitialize | .home | .displayOn | .displayOff | .cursorOn | .cursorOff | .blinkOn | .blinkOff | .leftToRight
  | .rightToLeft | .autoscrollOn | .autoscrollOff | .scrollLeft | .scrollRight | .write _ | .charReinit | .charHome
  | .charClrEol | .charCr | .charLf | .cmdClear | .cmdEntryModeSet _ _ | .cmdDisplayControl _ _ _ | .cmdDisplayShift _
  | .cmdFunctionSet _ | .cmdSetCgramAddr _ | .cmdSetDdramAddr _ | .cmdNull | .cmdForceNibble | .frame _ _ _ _
  | .writeNibble _ _ | .send _ _ | .sendNibble _ => true

end Sys2Proof
end

