-- ==== Sys2Proof/Decode.lean ====
section
/-! DEFINITION. The encodings of 30_encoding.md: the input byte of `write` (R90), which is the block's only byte-coded input
(00_scope.md R3 (e)); the controller command bytes and the force nibble the block emits (R82); the frame byte (R80). Host
operations and the internal operations have no encoding (D24). Each format has a decoder and an encoder, and opcode_table.json's
words are read as input bytes (log entry 12). Last comes the reference decoder of delivered nibbles (41_nibble_transport.md R160). -/

namespace Sys2Proof

/-- An encoded instruction, with the place its bits stand in. The same eight bits mean different things in the three byte
formats. -/
inductive Encoded where
  /-- An input byte of `write` (R90). -/
  | charIn (b : Byte)
  /-- A controller command byte, sent with RS = 0 (R82). -/
  | ctrlCmd (b : Byte)
  /-- A lone command nibble (R82, last row). -/
  | ctrlNibble (n : Nibble)
  /-- A frame byte on the bus (R80). -/
  | frame (b : Byte)
  deriving DecidableEq, Repr

/-- Why a word is no instruction: the encodings of R93 that are never produced. -/
inductive DecodeReject where
  /-- No byte to decode. -/
  | noByte
  /-- Return Home, 0x02 and 0x03 (R93 (c)). -/
  | returnHome
  /-- Cursor Shift, 0x10..0x17 (R93 (c)). -/
  | cursorShift
  /-- A display shift other than 0x18 and 0x1C (R93 (c)). -/
  | otherDisplayShift
  /-- Function Set with DL = 1 or F = 1, or a low bit set (R93 (c), R87). -/
  | otherFunctionSet
  /-- Set CGRAM address of another row than row 0 of a slot (R84). -/
  | otherCgramAddr
  /-- A lone nibble other than 0x2 (R82). -/
  | otherNibble
  /-- A frame with RW = 1 (R93 (d)). -/
  | readFrame
  deriving DecidableEq, Repr

/-- What a decoder answers. -/
inductive Decoded where
  | ok (i : Instr)
  | rejected (r : DecodeReject)
  deriving DecidableEq, Repr

/-! ## The input byte of `write` (R90) -/

/-- R90: the first matching row applies; every byte decodes to exactly one row. -/
def decodeChar (ch : Byte) : Instr :=
  if ch = 0x01#8 then .charReinit
  else if ch = 0x02#8 then .charHome
  else if ch = 0x03#8 then .charClrEol
  else if ch = 0x0D#8 then .charCr
  else if ch = 0x0A#8 then .charLf
  else .charGlyph ch

/-- The block's decoder over a stream of input bytes: one instruction and the rest. -/
def decodeStream : List Byte → Decoded × List Byte
  | [] => (.rejected .noByte, [])
  | b :: rest => (.ok (decodeChar b), rest)

/-! ## Controller command bytes (R82 to R87) -/

/-- The rows of the ctrl_cmd format, by mask and match; the other bytes are rejected by the name R93 (c) gives them. -/
def decodeCommand (b : Byte) : Decoded :=
  if b = 0x00#8 then .ok .cmdNull
  else if b = 0x01#8 then .ok .cmdClear
  else if b &&& 0xFE#8 = 0x02#8 then .rejected .returnHome
  else if b &&& 0xFC#8 = 0x04#8 then .ok (.cmdEntryModeSet (b.getLsbD 1) (b.getLsbD 0))
  else if b &&& 0xF8#8 = 0x08#8 then .ok (.cmdDisplayControl (b.getLsbD 2) (b.getLsbD 1) (b.getLsbD 0))
  else if b &&& 0xF8#8 = 0x10#8 then .rejected .cursorShift
  else if b &&& 0xFB#8 = 0x18#8 then .ok (.cmdDisplayShift (b.getLsbD 2))
  else if b &&& 0xF8#8 = 0x18#8 then .rejected .otherDisplayShift
  else if b &&& 0xF7#8 = 0x20#8 then .ok (.cmdFunctionSet (b.getLsbD 3))
  else if b &&& 0xE0#8 = 0x20#8 then .rejected .otherFunctionSet
  else if b &&& 0xC7#8 = 0x40#8 then .ok (.cmdSetCgramAddr (b.extractLsb' 3 3))
  else if b &&& 0xC0#8 = 0x40#8 then .rejected .otherCgramAddr
  else .ok (.cmdSetDdramAddr (b.extractLsb' 0 7))

/-- The lone nibble of `sendNibble` (R82, last row; D11). -/
def decodeNibbleCommand (n : Nibble) : Decoded :=
  if n = Config.nibble4bit then .ok .cmdForceNibble else .rejected .otherNibble

/-- The frame byte `nnnnbe0r` (R80); RW = 1 is never produced (R81). -/
def decodeFrame (b : Byte) : Decoded :=
  if b.getLsbD Config.bitRW then .rejected .readFrame
  else .ok (.frame (Machine.highNibble b) (b.getLsbD Config.bitBL) (b.getLsbD Config.bitEN) (b.getLsbD Config.bitRS))

/-- The decoder of each place. -/
def decodeEncoded : Encoded → Decoded
  | .charIn b => .ok (decodeChar b)
  | .ctrlCmd b => decodeCommand b
  | .ctrlNibble n => decodeNibbleCommand n
  | .frame b => decodeFrame b

/-! ## The encoder -/

/-- `000001is` (R85). -/
def entryModeWord (i s : Bool) : Byte :=
  Machine.entryModeCmd ((if i then Config.emID else 0#8) ||| (if s then Config.emS else 0#8))

/-- `00001dcb` (R86). -/
def displayControlWord (d c b : Bool) : Byte :=
  Machine.displayControlCmd
    ((if d then Config.dcD else 0#8) ||| (if c then Config.dcC else 0#8) ||| (if b then Config.dcB else 0#8))

/-- `00011r00`: `r = 1` is `scrollLeft`'s command (R82, R124, R125). -/
def displayShiftWord (r : Bool) : Byte := if r then Machine.scrollLeftCmd else Machine.scrollRightCmd

/-- `0010n000` (R87). -/
def functionSetWord (n : Bool) : Byte := Config.funcsetBase ||| (if n then Config.funcsetN else 0#8)

/-- `01sss000` (R84). -/
def setCgramWord (s : BitVec 3) : Byte := 0x40#8 ||| (s.zeroExtend 8 <<< 3)

/-- `1aaaaaaa` (R83). -/
def setDdramWord (a : BitVec 7) : Byte := 0x80#8 ||| a.zeroExtend 8

/-- `nnnnbe0r` (R80). -/
def frameWord (n : Nibble) (b e r : Bool) : Byte :=
  if e then Machine.strobeHigh (Machine.frameByte b n r) else Machine.frameByte b n r

/-- The word of an instruction, from the patterns of R80, R82 and R90. Host operations and internal operations have none (D24). -/
def encode : Instr → Option Encoded
  | .charReinit => some (.charIn 0x01#8)
  | .charHome => some (.charIn 0x02#8)
  | .charClrEol => some (.charIn 0x03#8)
  | .charCr => some (.charIn 0x0D#8)
  | .charLf => some (.charIn 0x0A#8)
  | .charGlyph c => some (.charIn c)
  | .cmdClear => some (.ctrlCmd Machine.clearCmd)
  | .cmdEntryModeSet i s => some (.ctrlCmd (entryModeWord i s))
  | .cmdDisplayControl d c b => some (.ctrlCmd (displayControlWord d c b))
  | .cmdDisplayShift r => some (.ctrlCmd (displayShiftWord r))
  | .cmdFunctionSet n => some (.ctrlCmd (functionSetWord n))
  | .cmdSetCgramAddr s => some (.ctrlCmd (setCgramWord s))
  | .cmdSetDdramAddr a => some (.ctrlCmd (setDdramWord a))
  | .cmdNull => some (.ctrlCmd Machine.nullCmd)
  | .cmdForceNibble => some (.ctrlNibble Config.nibble4bit)
  | .frame n b e r => some (.frame (frameWord n b e r))
  | .initializeBlock _ _ | .reinitialize | .home | .setCursor _ _ | .displayOn | .displayOff | .cursorOn | .cursorOff
  | .blinkOn | .blinkOff | .leftToRight | .rightToLeft | .autoscrollOn | .autoscrollOff | .scrollLeft | .scrollRight
  | .setBacklight _ | .createChar _ _ | .write _ | .writeNibble _ _ | .send _ _ | .sendNibble _ => none

/-- The mask and match opcode_table.json gives the instruction's row, for the rows that have bits. -/
def Instr.tableBits : Instr → Option (Byte × Byte)
  | .charReinit => some (0xFF#8, 0x01#8)
  | .charHome => some (0xFF#8, 0x02#8)
  | .charClrEol => some (0xFF#8, 0x03#8)
  | .charCr => some (0xFF#8, 0x0D#8)
  | .charLf => some (0xFF#8, 0x0A#8)
  | .charGlyph _ => some (0x00#8, 0x00#8)
  | .cmdClear => some (0xFF#8, 0x01#8)
  | .cmdEntryModeSet _ _ => some (0xFC#8, 0x04#8)
  | .cmdDisplayControl _ _ _ => some (0xF8#8, 0x08#8)
  | .cmdDisplayShift _ => some (0xFB#8, 0x18#8)
  | .cmdFunctionSet _ => some (0xF7#8, 0x20#8)
  | .cmdSetCgramAddr _ => some (0xC7#8, 0x40#8)
  | .cmdSetDdramAddr _ => some (0x80#8, 0x80#8)
  | .cmdNull => some (0xFF#8, 0x00#8)
  | .cmdForceNibble => some (0x0F#8, 0x02#8)
  | .frame _ _ _ _ => some (0x02#8, 0x00#8)
  | .initializeBlock _ _ | .reinitialize | .home | .setCursor _ _ | .displayOn | .displayOff | .cursorOn | .cursorOff
  | .blinkOn | .blinkOff | .leftToRight | .rightToLeft | .autoscrollOn | .autoscrollOff | .scrollLeft | .scrollRight
  | .setBacklight _ | .createChar _ _ | .write _ | .writeNibble _ _ | .send _ _ | .sendNibble _ => none

/-- The bits of an encoded word as a byte, the nibble in the low half. -/
def encodedBits : Encoded → Byte
  | .charIn b | .ctrlCmd b | .frame b => b
  | .ctrlNibble n => n.zeroExtend 8

/-! ## The words of opcode_table.json -/

/-- The `k` bytes of a word whose bits are `w`, the lowest first. -/
def wordBytes : Nat → Nat → List Byte
  | 0, _ => []
  | k + 1, w => BitVec.ofNat 8 w :: wordBytes k (w / 256)

/-- How many whole bytes `nbits` bits take. -/
def bytesOfBits (nbits : Nat) : Nat := (nbits + 7) / 8

/-- The instruction the block's decoder reads from a word of the table: the block reads input bytes of `write` only (R90),
so a word of one byte decodes by `decodeChar`, and a longer or empty one is no instruction (log entry 12). -/
def decodeTableWord (nbits w : Nat) : Option Instr :=
  match decodeStream (wordBytes (bytesOfBits nbits) w) with
  | (.ok i, []) => some i
  | _ => none

/-! ## The reference decoder of delivered nibbles (R160) -/

/-- The nibbles a transaction's byte list delivers, each with its register select: one at each pair of consecutive bytes whose
EN goes from 1 to 0. -/
def deliveredNibbles : List Byte → List (Nibble × Bool)
  | x :: y :: rest =>
    if x.getLsbD Config.bitEN && !y.getLsbD Config.bitEN then
      (Machine.highNibble y, y.getLsbD Config.bitRS) :: deliveredNibbles (y :: rest)
    else deliveredNibbles (y :: rest)
  | _ => []

/-- `(h << 4) | l` (R89). -/
def joinNibbles (h l : Nibble) : Byte := (h.zeroExtend 8 <<< 4) ||| l.zeroExtend 8

end Sys2Proof
end

