-- ==== Sys2Proof/Machine/State.lean ====
section
/-! DEFINITION. The state: the record of 10_state.md R20, with the observation (the trace of 20_memory.md R51, the outcomes
of 60_exceptions.md R211) and the environment a step reads (the host's pending inputs, the bus's answers), all plain data.
The block has no memory and no program counter (R21, R50), so State has neither. -/

namespace Sys2Proof.Machine

/-- The bus events of 20_memory.md R51. -/
inductive Event where
  /-- `beginTransaction(address)`. -/
  | txBegin (addr : BusAddr)
  /-- `writeByte(value)`. -/
  | txByte (b : Byte)
  /-- `endTransaction()`; `ok = false`: the collaborator reported failure. -/
  | txEnd (ok : Bool)
  /-- `waitMicroseconds(duration)`. -/
  | wait (us : Nat)
  deriving DecidableEq, Repr

/-- The faults of 60_exceptions.md R211. No step stops with one: the spec gives the state after a fault and lets the host
go on (R213, R216), so a fault is an outcome recorded in State (log entry 3). -/
inductive Fault where
  /-- A transaction close reported failure (R212). Raised by every operation that closes a transaction, through
  `busFailure`. Safe: what the spec leaves open after it is a free value. -/
  | busFailure
  deriving DecidableEq, Repr

/-- The refusals of R211. No step stops with one either: a refused operation changes no field except `refused` (95_test_vectors.md
RF), so a refusal is an outcome recorded in State (log entry 2). -/
inductive Refusal where
  /-- Any host operation but `initialize` before `initialize` (D15). Raised by every host operation. Safe. -/
  | notInitialized
  /-- A second `initialize` (D15). Raised by `initialize`. Safe. -/
  | alreadyInitialized
  /-- `initialize` with a geometry outside 1..255 by 1..4 (D16). Raised by `initialize`. Safe. -/
  | geometryOutOfDomain
  /-- A column, row, slot or level outside its domain (D17). Raised by `setCursor`, `createChar`, `setBacklight`. Safe. -/
  | argumentOutOfDomain
  /-- A pattern of other than 8 bytes (D17). Raised by `createChar`. Safe. -/
  | patternLength
  /-- An instruction without a meaning. Raised by no arm of `exec`: every instruction has its meaning. Safe. -/
  | notModelled (mnemonic : String)
  deriving DecidableEq, Repr

/-- The outcome of a host operation (R211): success with its return value (only `write` has one, 42_character_sink.md R181),
a fault, or a refusal. -/
inductive OpOutcome where
  | returned (value : Option Nat)
  | raised (f : Fault)
  | refused (r : Refusal)
  deriving DecidableEq, Repr

/-- What the host hands the block: a call of an operation (30_encoding.md R91), or a byte for `write` as a text sink
(42_character_sink.md R180; `print` of 30_encoding.md R92 is a list of these). -/
inductive HostInput where
  | call (i : Instr)
  | byte (b : Byte)
  deriving DecidableEq, Repr

/-- The machine. -/
structure State where
  /-- `initialize` has run (10_state.md R29). -/
  initialized : Bool
  /-- Display columns (R22). -/
  columns : Nat
  /-- Display lines (R22). -/
  lines : Nat
  /-- Entry-mode bits (R23). -/
  entryMode : Byte
  /-- Display-control bits (R24). -/
  displayControl : Byte
  /-- Cursor row (R25). -/
  cursorRow : Nat
  /-- Cursor column (R25). -/
  cursorCol : Nat
  /-- Backlight level (R26). -/
  backlightLevel : Int
  /-- Last register-select level written to the bus, owned by the transport (R27). -/
  lastRS : Bool
  /-- Sticky fault flag (R33). -/
  busFault : Bool
  /-- Sticky refusal mark (R33). -/
  refused : Bool
  /-- The events emitted so far, oldest first (20_memory.md R51). -/
  trace : List Event
  /-- The outcomes of the host operations so far, oldest first (00_scope.md R6). -/
  results : List OpOutcome
  /-- The host's pending inputs, oldest first (R5; log entry 11). -/
  input : List HostInput
  /-- The bus's answers to the next closes; where they run out, `Config.busAnswer` answers (log entry 5). -/
  busAnswers : List Bool
  /-- Transaction closes so far, the index of `Config.busAnswer` (log entry 5). -/
  closes : Nat
  /-- Free values drawn so far, the index of `Config.freeNat` (log entry 6). -/
  draws : Nat
  deriving DecidableEq, Repr

/-- The state at construction (10_state.md R34, 70_reset_and_hazards.md R240 (a)): the fields the spec leaves unspecified are
free values (log entry 9), nothing is emitted, and nothing is placed by the host. -/
def State.reset : State :=
  { initialized := false
    columns := Config.preColumns
    lines := Config.preLines
    entryMode := Config.preEntryMode
    displayControl := Config.preDisplayControl
    cursorRow := Config.preCursorRow
    cursorCol := Config.preCursorCol
    backlightLevel := Config.initBacklight
    lastRS := Config.initLastRS
    busFault := false
    refused := false
    trace := []
    results := []
    input := []
    busAnswers := []
    closes := 0
    draws := 0 }

end Sys2Proof.Machine
end

