-- ==== Sys2Proof/Machine/Ops.lean ====
section
/-! DEFINITION. The shared operations: one named update per state field, the bus events (20_memory.md R51), the transport
(41_nibble_transport.md R150 to R154), refusing an operation (00_scope.md R11), taking a bus failure (60_exceptions.md R212,
R213) and running a host operation (40_display_state.md R110). There is no return from a fault: control is back with the host
at once (60_exceptions.md R215). -/

namespace Sys2Proof.Machine

/-! ## Named updates -/

/-- Append one event to the trace (20_memory.md R51). -/
def State.emit (s : State) (e : Event) : State := { s with trace := s.trace ++ [e] }

/-- `S.lastRS <- v`. -/
def State.setLastRS (s : State) (v : Bool) : State := { s with lastRS := v }

/-- `S.cursorCol <- c ; S.cursorRow <- r`. -/
def State.setCursorPos (s : State) (c r : Nat) : State := { s with cursorCol := c, cursorRow := r }

/-- `S.entryMode <- v`. -/
def State.setEntryMode (s : State) (v : Byte) : State := { s with entryMode := v }

/-- `S.displayControl <- v`. -/
def State.setDisplayControl (s : State) (v : Byte) : State := { s with displayControl := v }

/-- `S.backlightLevel <- v`. -/
def State.setBacklightLevel (s : State) (v : Int) : State := { s with backlightLevel := v }

/-- `S.columns <- c ; S.lines <- l`. -/
def State.setGeometry (s : State) (c l : Nat) : State := { s with columns := c, lines := l }

/-- `S.initialized <- true`. -/
def State.setInitialized (s : State) : State := { s with initialized := true }

/-- `S.busFault <- true`. -/
def State.setBusFault (s : State) : State := { s with busFault := true }

/-- `S.refused <- true`. -/
def State.setRefused (s : State) : State := { s with refused := true }

/-- Hand an operation's outcome to the host (60_exceptions.md R211). -/
def State.pushOutcome (s : State) (o : OpOutcome) : State := { s with results := s.results ++ [o] }

/-- Replace the host's pending inputs. -/
def State.setInput (s : State) (i : List HostInput) : State := { s with input := i }

/-- Consume the bus's answer to one close. -/
def State.takeAnswer (s : State) : State := { s with busAnswers := s.busAnswers.tail, closes := s.closes + 1 }

/-- Count `n` free values as drawn. -/
def State.countDraws (s : State) (n : Nat) : State := { s with draws := s.draws + n }

/-! ## The bus -/

/-- The bus oracle's answer to the `k`-th close from now: the script's, else the free value (R5, D23). -/
def State.answerAt (s : State) (k : Nat) : Bool :=
  match s.busAnswers[k]? with
  | some a => a
  | none => Config.busAnswer (s.closes + k)

/-- How a piece of an operation ends: it went through, or a close failed and nothing after it runs (60_exceptions.md R212). -/
inductive Run where
  | done (s : State)
  | failed (s : State)
  deriving DecidableEq, Repr

/-- Run `f` after a piece that went through; after a failed close nothing more runs (R212 item 3). -/
def Run.andThen : Run → (State → Run) → Run
  | .done s, f => f s
  | .failed s, _ => .failed s

/-- Update the state after a piece that went through. -/
def Run.thenUpdate (r : Run) (f : State → State) : Run := r.andThen fun s => .done (f s)

/-- `TxBegin(DEV_ADDR)` (R52: the address is always DEV_ADDR). -/
def txBegin (s : State) : State := s.emit (.txBegin Config.devAddr)

/-- `TxByte(b)`. -/
def txByte (b : Byte) (s : State) : State := s.emit (.txByte b)

/-- `TxEnd()`: the event carries the bus's answer, and a failure ends the operation (R212). -/
def txEnd (s : State) : Run :=
  let ok := s.answerAt 0
  let t := (s.emit (.txEnd ok)).takeAnswer
  if ok then .done t else .failed t

/-- `Wait(us)`. -/
def wait (us : Nat) (s : State) : State := s.emit (.wait us)

/-! ## The nibble transport -/

/-- `frame(n, isData)` with the backlight level held now (41_nibble_transport.md R150). -/
def State.frame (s : State) (n : Nibble) (isData : Bool) : Byte :=
  frameByte (backlightOn s.backlightLevel) n isData

/-- `writeNibble(n, isData)` inside an open transaction (R151). -/
def writeNibble (n : Nibble) (isData : Bool) (s : State) : State :=
  let f := s.frame n isData
  let settled := if isData ≠ s.lastRS then (txByte f s).setLastRS isData else s
  txByte f (txByte (strobeHigh f) settled)

/-- `send(value, isData)`: one transaction, high nibble first (R152). -/
def send (value : Byte) (isData : Bool) (s : State) : Run :=
  txEnd (writeNibble (lowNibble value) isData (writeNibble (highNibble value) isData (txBegin s)))

/-- `sendNibble(n)`: one transaction of one command nibble (R153). -/
def sendNibble (n : Nibble) (s : State) : Run :=
  txEnd (writeNibble n false (txBegin s))

/-- `command(b)` abbreviates `send(b, false)` (40_display_state.md R110). -/
def command (b : Byte) (s : State) : Run := send b false s

/-! ## Refusals -/

/-- A refused operation emits nothing, changes no field except `refused`, and returns no value (00_scope.md R11,
95_test_vectors.md RF; log entry 2). -/
def refuse (r : Refusal) (s : State) : State := s.setRefused.pushOutcome (.refused r)

/-- Every operation except `initialize` is refused before it (10_state.md R29). -/
def checkInitialized (s : State) : Option Refusal :=
  if s.initialized then none else some .notInitialized

/-- The checks of an operation with bounded arguments (40_display_state.md R110; the order is log entry 18). -/
def checkArguments (ok : Bool) (s : State) : Option Refusal :=
  match checkInitialized s with
  | some r => some r
  | none => if ok then none else some .argumentOutOfDomain

/-- The checks of `createChar` (D17). Where both arguments are out of domain the reason is a free choice (log entry 18). -/
def checkCreateChar (slot : Int) (p : List Byte) (s : State) : Option Refusal :=
  match checkInitialized s with
  | some r => some r
  | none =>
    match argInDomain slot, patternInDomain p with
    | true, true => none
    | true, false => some .patternLength
    | false, true => some .argumentOutOfDomain
    | false, false => some (if Config.patternCheckedFirst then .patternLength else .argumentOutOfDomain)

/-- The checks of `initialize`, in the order of its pseudocode (R127). -/
def checkInitialize (c l : Int) (s : State) : Option Refusal :=
  if s.initialized then some .alreadyInitialized
  else if geometryInDomain c l then none else some .geometryOutOfDomain

/-! ## Bus failure -/

/-- A draw of both cursor fields from [0, columns) and [0, lines) (60_exceptions.md R213, log entries 6 and 7). -/
def drawCursor (s : State) : State :=
  (s.setCursorPos (Config.freeNat s.draws % s.columns) (Config.freeNat (s.draws + 1) % s.lines)).countDraws 2

/-- A draw of entryMode from 0x00..0x03 (R213, 10_state.md R23). -/
def drawEntryMode (s : State) : State :=
  (s.setEntryMode (trunc8 (Config.freeNat s.draws % 4))).countDraws 1

/-- A draw of displayControl from 0x00..0x07 (R213, R24). -/
def drawDisplayControl (s : State) : State :=
  (s.setDisplayControl (trunc8 (Config.freeNat s.draws % 8))).countDraws 1

/-- A draw of backlightLevel from -32768..32767 (R213, R26). -/
def drawBacklight (s : State) : State :=
  (s.setBacklightLevel (Config.levelMin + ((Config.freeNat s.draws % 65536 : Nat) : Int))).countDraws 1

/-- A draw of the geometry from 1..255 by 1..4 (R213, R22). -/
def drawGeometry (s : State) : State :=
  (s.setGeometry (Config.freeNat s.draws % Config.maxColumns + 1)
    (Config.freeNat (s.draws + 1) % Config.maxLines + 1)).countDraws 2

/-- A draw of every DisplayState field (R213: "for `initialize` all of them"; 40_display_state.md R127), the cursor within the drawn
geometry. -/
def drawInitialize (s : State) : State :=
  drawCursor (drawDisplayControl (drawEntryMode (drawGeometry (drawBacklight s))))

/-- No DisplayState field to draw: `scrollLeft`, `scrollRight` and `createChar` write none (R213). -/
def drawNothing (s : State) : State := s

/-- Take a BusFailure (60_exceptions.md R212, R213): the sticky flag is set, the DisplayState fields the operation writes become
draws, and the failure is the outcome the host gets. `lastRS` and the trace stay as the rules left them. -/
def busFailure (draw : State → State) (s : State) : State :=
  (draw s.setBusFault).pushOutcome (.raised .busFailure)

/-! ## Running an operation -/

/-- One host operation as one atomic step (40_display_state.md R110): the refusal checks before any event, then the body; its
outcome goes to the host. -/
def hostOp (check : State → Option Refusal) (draw : State → State) (ret : Option Nat) (body : State → Run)
    (s : State) : State :=
  match check s with
  | some r => refuse r s
  | none =>
    match body s with
    | .done t => t.pushOutcome (.returned ret)
    | .failed t => busFailure draw t

/-- An internal operation run by itself (log entry 13): it is never refused (41_nibble_transport.md, preamble), draws nothing and
has no host outcome; a failed close sets the sticky flag (R212). -/
def internalOp (body : State → Run) (s : State) : State :=
  match body s with
  | .done t => t
  | .failed t => t.setBusFault

end Sys2Proof.Machine
end

