-- ==== Sys2Proof/Machine/Commands.lean ====
section
/-! DEFINITION. The meanings of the controller command rows (30_encoding.md R82): the block emits the command, through `send`
with RS = 0, or through `sendNibble` for the force nibble. What the controller does with it is outside the block (D1). Each
runs by itself here, with no host outcome (log entry 15). -/

namespace Sys2Proof.Machine

/-- Meaning of CLEAR (R82). -/
def execCmdClear (s : State) : Host.Outcome State Fault Refusal :=
  .next (internalOp (command clearCmd) s)

/-- Meaning of ENTRY_MODE_SET (R85). -/
def execCmdEntryModeSet (i e : Bool) (s : State) : Host.Outcome State Fault Refusal :=
  .next (internalOp (command (entryModeWord i e)) s)

/-- Meaning of DISPLAY_CONTROL (R86). -/
def execCmdDisplayControl (d c b : Bool) (s : State) : Host.Outcome State Fault Refusal :=
  .next (internalOp (command (displayControlWord d c b)) s)

/-- Meaning of DISPLAY_SHIFT (R82). -/
def execCmdDisplayShift (r : Bool) (s : State) : Host.Outcome State Fault Refusal :=
  .next (internalOp (command (displayShiftWord r)) s)

/-- Meaning of FUNCTION_SET (R87). -/
def execCmdFunctionSet (n : Bool) (s : State) : Host.Outcome State Fault Refusal :=
  .next (internalOp (command (functionSetWord n)) s)

/-- Meaning of SET_CGRAM_ADDR (R84). -/
def execCmdSetCgramAddr (a : BitVec 3) (s : State) : Host.Outcome State Fault Refusal :=
  .next (internalOp (command (setCgramWord a)) s)

/-- Meaning of SET_DDRAM_ADDR (R83). -/
def execCmdSetDdramAddr (a : BitVec 7) (s : State) : Host.Outcome State Fault Refusal :=
  .next (internalOp (command (setDdramWord a)) s)

/-- Meaning of NULL (R82). -/
def execCmdNull (s : State) : Host.Outcome State Fault Refusal :=
  .next (internalOp (command nullCmd) s)

/-- Meaning of FORCE_4BIT_NIBBLE (R82, 41_nibble_transport.md R153). -/
def execCmdForceNibble (s : State) : Host.Outcome State Fault Refusal :=
  .next (internalOp (sendNibble Config.nibble4bit) s)

end Sys2Proof.Machine
end

