-- ==== Sys2Proof/Machine/Display.lean ====
section
/-! DEFINITION. The DisplayState operations of 40_display_state.md: the body of each rule, and the meaning of its host
operation. -/

namespace Sys2Proof.Machine

/-! ## Cursor addressing -/

/-- `setCursor(col, row)` (R111): the raw arguments are compared with the stored pair before wrapping (D18). -/
def setCursor (col row : Nat) (s : State) : Run :=
  if col = s.cursorCol ∧ row = s.cursorRow then .done s
  else
    let c := col % s.columns
    let r := row % s.lines
    command (ddramCmd c r) (s.setCursorPos c r)

/-- `home()` (R113). -/
def home (s : State) : Run := setCursor 0 0 s

/-- Meaning of `setCursor` (R111). -/
def execSetCursor (col row : Int) (s : State) : Host.Outcome State Fault Refusal :=
  .next (hostOp (checkArguments (argInDomain col && argInDomain row)) drawCursor none
    (setCursor col.toNat row.toNat) s)

/-- Meaning of `home` (R113). -/
def execHome (s : State) : Host.Outcome State Fault Refusal :=
  .next (hostOp checkInitialized drawCursor none home s)

/-! ## Display-control mutators -/

/-- Write `displayControl` and send `0x08 | displayControl` (R114 to R119), always (D22). -/
def mutateDisplayControl (f : Byte → Byte) (s : State) : Run :=
  let t := s.setDisplayControl (f s.displayControl)
  command (displayControlCmd t.displayControl) t

/-- Meaning of `displayOn` (R114). -/
def execDisplayOn (s : State) : Host.Outcome State Fault Refusal :=
  .next (hostOp checkInitialized drawDisplayControl none (mutateDisplayControl (withFlag Config.dcD)) s)

/-- Meaning of `displayOff` (R115). -/
def execDisplayOff (s : State) : Host.Outcome State Fault Refusal :=
  .next (hostOp checkInitialized drawDisplayControl none (mutateDisplayControl (withoutFlag Config.dcD)) s)

/-- Meaning of `cursorOn` (R116). -/
def execCursorOn (s : State) : Host.Outcome State Fault Refusal :=
  .next (hostOp checkInitialized drawDisplayControl none (mutateDisplayControl (withFlag Config.dcC)) s)

/-- Meaning of `cursorOff` (R117). -/
def execCursorOff (s : State) : Host.Outcome State Fault Refusal :=
  .next (hostOp checkInitialized drawDisplayControl none (mutateDisplayControl (withoutFlag Config.dcC)) s)

/-- Meaning of `blinkOn` (R118). -/
def execBlinkOn (s : State) : Host.Outcome State Fault Refusal :=
  .next (hostOp checkInitialized drawDisplayControl none (mutateDisplayControl (withFlag Config.dcB)) s)

/-- Meaning of `blinkOff` (R119). -/
def execBlinkOff (s : State) : Host.Outcome State Fault Refusal :=
  .next (hostOp checkInitialized drawDisplayControl none (mutateDisplayControl (withoutFlag Config.dcB)) s)

/-! ## Entry-mode mutators -/

/-- Write `entryMode` and send `0x04 | entryMode` (R120 to R123), always (D22). -/
def mutateEntryMode (f : Byte → Byte) (s : State) : Run :=
  let t := s.setEntryMode (f s.entryMode)
  command (entryModeCmd t.entryMode) t

/-- Meaning of `leftToRight` (R120). -/
def execLeftToRight (s : State) : Host.Outcome State Fault Refusal :=
  .next (hostOp checkInitialized drawEntryMode none (mutateEntryMode (withFlag Config.emID)) s)

/-- Meaning of `rightToLeft` (R121). -/
def execRightToLeft (s : State) : Host.Outcome State Fault Refusal :=
  .next (hostOp checkInitialized drawEntryMode none (mutateEntryMode (withoutFlag Config.emID)) s)

/-- Meaning of `autoscrollOn` (R122). -/
def execAutoscrollOn (s : State) : Host.Outcome State Fault Refusal :=
  .next (hostOp checkInitialized drawEntryMode none (mutateEntryMode (withFlag Config.emS)) s)

/-- Meaning of `autoscrollOff` (R123). -/
def execAutoscrollOff (s : State) : Host.Outcome State Fault Refusal :=
  .next (hostOp checkInitialized drawEntryMode none (mutateEntryMode (withoutFlag Config.emS)) s)

/-! ## Display shifts -/

/-- Meaning of `scrollLeft` (R124): the fixed command 0x1C, the source's literal. -/
def execScrollLeft (s : State) : Host.Outcome State Fault Refusal :=
  .next (hostOp checkInitialized drawNothing none (command scrollLeftCmd) s)

/-- Meaning of `scrollRight` (R125): the fixed command 0x18, the source's literal. -/
def execScrollRight (s : State) : Host.Outcome State Fault Refusal :=
  .next (hostOp checkInitialized drawNothing none (command scrollRightCmd) s)

/-! ## The reset sequence -/

/-- `reinitialize()` (R126), in the source's order. The modes are read and re-sent, the cursor is reset without a command (D14). -/
def reinitialize (s : State) : Run :=
  (command clearCmd s).andThen fun s =>
  (sendNibble Config.nibble4bit s).andThen fun s =>
  (command (functionSetCmd s.lines) (wait Config.settle1 s)).andThen fun s =>
  (command (entryModeCmd s.entryMode) s).andThen fun s =>
  (command (displayControlCmd s.displayControl) s).andThen fun s =>
  (command clearCmd s).thenUpdate fun s =>
  (wait Config.settle2 s).setCursorPos 0 0

/-- The body of `initialize(c, l)` once its checks pass (R127). -/
def initializeBody (c l : Nat) (s : State) : Run :=
  reinitialize ((((s.setGeometry c l).setEntryMode Config.defaultEntry).setDisplayControl Config.defaultDC).setInitialized)

/-- Meaning of `reinitialize` (R126). -/
def execReinitialize (s : State) : Host.Outcome State Fault Refusal :=
  .next (hostOp checkInitialized drawCursor none reinitialize s)

/-- Meaning of `initialize c, l` (R127). -/
def execInitializeBlock (c l : Int) (s : State) : Host.Outcome State Fault Refusal :=
  .next (hostOp (checkInitialize c l) drawInitialize none (initializeBody c.toNat l.toNat) s)

end Sys2Proof.Machine
end

