-- ==== Sys2Proof/Machine/Sink.lean ====
section
/-! DEFINITION. The character sink, custom glyphs and the backlight (42_character_sink.md): the body of each rule, the meanings of
the six input-byte rows, of `write`, `createChar` and `setBacklight`. An input-byte row is `write` of that byte (log entry 14):
refused before `initialize`, count 1 when it completes (R181). -/

namespace Sys2Proof.Machine

/-! ## Bodies -/

/-- `glyph(ch)` (R187): the data byte, then the advance; the column that reaches `columns` wraps to the next row through
`setCursor`, which wraps the row (R188). `entryMode` is never consulted (70_reset_and_hazards.md R247). -/
def glyph (ch : Byte) (s : State) : Run :=
  (send ch true s).andThen fun s =>
    let next := s.cursorCol + 1
    if next = s.columns then setCursor 0 (s.cursorRow + 1) s
    else .done (s.setCursorPos next s.cursorRow)

/-- `k` glyph writes of a space (R184). -/
def fillSpaces : Nat → State → Run
  | 0, s => .done s
  | k + 1, s => (glyph spaceChar s).andThen (fillSpaces k)

/-- `clearToEol()` (R184): the fill count is fixed at the start (D29), the cursor is restored at the end. -/
def clearToEol (s : State) : Run :=
  (fillSpaces (s.columns - s.cursorCol) s).andThen (setCursor s.cursorCol s.cursorRow)

/-- `carriageReturn()` (R185). -/
def carriageReturn (s : State) : Run := setCursor 0 s.cursorRow s

/-- `lineFeed()` (R186): the same column of the next row (90_conflicts.md C4). -/
def lineFeed (s : State) : Run := setCursor s.cursorCol (s.cursorRow + 1) s

/-- The dispatch of `write` (R180). -/
def writeBody (ch : Byte) : State → Run :=
  if ch = 0x01#8 then reinitialize
  else if ch = 0x02#8 then home
  else if ch = 0x03#8 then clearToEol
  else if ch = 0x0D#8 then carriageReturn
  else if ch = 0x0A#8 then lineFeed
  else glyph ch

/-- Send bytes as data, one transaction each (R190). -/
def sendAll : List Byte → State → Run
  | [], s => .done s
  | b :: rest, s => (send b true s).andThen (sendAll rest)

/-- `createChar(slot, p)` (R190). -/
def createCharBody (slot : Nat) (p : List Byte) (s : State) : Run :=
  (command (cgramCmd slot) s).andThen (sendAll p)

/-- `setBacklight(level)` (R192): the frames are built with the new level. -/
def setBacklightBody (level : Int) (s : State) : Run :=
  command nullCmd (s.setBacklightLevel level)

/-! ## The input-byte rows -/

/-- An input byte taken by `write`: the count is 1 (R181), a failure draws the cursor fields (60_exceptions.md R213). -/
def sinkOp (body : State → Run) (s : State) : State :=
  hostOp checkInitialized drawCursor (some 1) body s

/-- Meaning of `write ch` (R180). -/
def execWrite (ch : Byte) (s : State) : Host.Outcome State Fault Refusal :=
  .next (sinkOp (writeBody ch) s)

/-- Meaning of REINIT, 0x01 (R182). -/
def execCharReinit (s : State) : Host.Outcome State Fault Refusal :=
  .next (sinkOp reinitialize s)

/-- Meaning of HOME, 0x02 (R183). -/
def execCharHome (s : State) : Host.Outcome State Fault Refusal :=
  .next (sinkOp home s)

/-- Meaning of CLREOL, 0x03 (R184). -/
def execCharClrEol (s : State) : Host.Outcome State Fault Refusal :=
  .next (sinkOp clearToEol s)

/-- Meaning of CR, 0x0D (R185). -/
def execCharCr (s : State) : Host.Outcome State Fault Refusal :=
  .next (sinkOp carriageReturn s)

/-- Meaning of LF, 0x0A (R186). -/
def execCharLf (s : State) : Host.Outcome State Fault Refusal :=
  .next (sinkOp lineFeed s)

/-- Meaning of GLYPH (R187). No input byte decodes to a GLYPH row that carries one of the five escape bytes (30_encoding.md R90), and
the spec gives such a row no meaning: that it runs as a glyph write of the byte is the model's choice (DESIGN CHOICE, log entry 25). -/
def execCharGlyph (c : Byte) (s : State) : Host.Outcome State Fault Refusal :=
  .next (sinkOp (glyph c) s)

/-! ## Custom glyphs and backlight -/

/-- Meaning of `createChar` (R190). -/
def execCreateChar (slot : Int) (p : List Byte) (s : State) : Host.Outcome State Fault Refusal :=
  .next (hostOp (checkCreateChar slot p) drawNothing none (createCharBody slot.toNat p) s)

/-- Meaning of `setBacklight` (R192). -/
def execSetBacklight (level : Int) (s : State) : Host.Outcome State Fault Refusal :=
  .next (hostOp (checkArguments (levelInDomain level)) drawBacklight none (setBacklightBody level) s)

end Sys2Proof.Machine
end

