-- ==== Sys2Proof/Machine/Transport.lean ====
section
/-! DEFINITION. The meanings of the transport's own rows: the frame byte (30_encoding.md R80) and the internal operations
(41_nibble_transport.md R151 to R153). The host never issues them, and they are never refused; here each runs by itself (log
entries 13 and 16). -/

namespace Sys2Proof.Machine

/-- Meaning of FRAME: the byte goes onto the bus as one `TxByte` (R80, R14). `lastRS` is written by `writeNibble` only (R27). -/
def execFrame (n : Nibble) (b e r : Bool) (s : State) : Host.Outcome State Fault Refusal :=
  .next (txByte (frameWord n b e r) s)

/-- Meaning of `writeNibble` (R151); the caller has opened the transaction. -/
def execWriteNibble (n : Nibble) (isData : Bool) (s : State) : Host.Outcome State Fault Refusal :=
  .next (writeNibble n isData s)

/-- Meaning of `send` (R152). -/
def execSend (value : Byte) (isData : Bool) (s : State) : Host.Outcome State Fault Refusal :=
  .next (internalOp (send value isData) s)

/-- Meaning of `sendNibble` (R153). -/
def execSendNibble (n : Nibble) (s : State) : Host.Outcome State Fault Refusal :=
  .next (internalOp (sendNibble n) s)

end Sys2Proof.Machine
end

