-- ==== Sys2Proof/Machine/Dispatch.lean ====
section
/-! DEFINITION. The dispatch: one arm per row of opcode_table.json, each a direct call of its meaning. -/

namespace Sys2Proof.Machine

def exec (i : Instr) (s : State) : Host.Outcome State Fault Refusal :=
  match i with
  | .initializeBlock c l => Sys2Proof.Machine.execInitializeBlock c l s
  | .reinitialize => Sys2Proof.Machine.execReinitialize s
  | .home => Sys2Proof.Machine.execHome s
  | .setCursor col row => Sys2Proof.Machine.execSetCursor col row s
  | .displayOn => Sys2Proof.Machine.execDisplayOn s
  | .displayOff => Sys2Proof.Machine.execDisplayOff s
  | .cursorOn => Sys2Proof.Machine.execCursorOn s
  | .cursorOff => Sys2Proof.Machine.execCursorOff s
  | .blinkOn => Sys2Proof.Machine.execBlinkOn s
  | .blinkOff => Sys2Proof.Machine.execBlinkOff s
  | .leftToRight => Sys2Proof.Machine.execLeftToRight s
  | .rightToLeft => Sys2Proof.Machine.execRightToLeft s
  | .autoscrollOn => Sys2Proof.Machine.execAutoscrollOn s
  | .autoscrollOff => Sys2Proof.Machine.execAutoscrollOff s
  | .scrollLeft => Sys2Proof.Machine.execScrollLeft s
  | .scrollRight => Sys2Proof.Machine.execScrollRight s
  | .setBacklight level => Sys2Proof.Machine.execSetBacklight level s
  | .createChar slot p => Sys2Proof.Machine.execCreateChar slot p s
  | .write ch => Sys2Proof.Machine.execWrite ch s
  | .charReinit => Sys2Proof.Machine.execCharReinit s
  | .charHome => Sys2Proof.Machine.execCharHome s
  | .charClrEol => Sys2Proof.Machine.execCharClrEol s
  | .charCr => Sys2Proof.Machine.execCharCr s
  | .charLf => Sys2Proof.Machine.execCharLf s
  | .charGlyph c => Sys2Proof.Machine.execCharGlyph c s
  | .cmdClear => Sys2Proof.Machine.execCmdClear s
  | .cmdEntryModeSet d e => Sys2Proof.Machine.execCmdEntryModeSet d e s
  | .cmdDisplayControl d c b => Sys2Proof.Machine.execCmdDisplayControl d c b s
  | .cmdDisplayShift r => Sys2Proof.Machine.execCmdDisplayShift r s
  | .cmdFunctionSet n => Sys2Proof.Machine.execCmdFunctionSet n s
  | .cmdSetCgramAddr a => Sys2Proof.Machine.execCmdSetCgramAddr a s
  | .cmdSetDdramAddr a => Sys2Proof.Machine.execCmdSetDdramAddr a s
  | .cmdNull => Sys2Proof.Machine.execCmdNull s
  | .cmdForceNibble => Sys2Proof.Machine.execCmdForceNibble s
  | .frame n b e r => Sys2Proof.Machine.execFrame n b e r s
  | .writeNibble n d => Sys2Proof.Machine.execWriteNibble n d s
  | .send v d => Sys2Proof.Machine.execSend v d s
  | .sendNibble n => Sys2Proof.Machine.execSendNibble n s

end Sys2Proof.Machine
end

