-- ==== Sys2Proof/Machine/HostPort.lean ====
section
/-! DEFINITION. The host's port: which instruction the next pending input is, and how an encoded word is handed to the block
(log entry 11). -/

namespace Sys2Proof.Machine

/-- The instruction of the next pending input, and the state with that input consumed: a call is its operation, a byte decodes as
the input of `write` (30_encoding.md R90). Nothing pending: the block is idle (60_exceptions.md R223). -/
def nextInput (s : State) : Option (Instr × State) :=
  match s.input with
  | [] => none
  | .call i :: rest => some (i, s.setInput rest)
  | .byte b :: rest => some (decodeChar b, s.setInput rest)

/-- The bytes of a word of `nbits` bits, handed to `write` before every other pending input. -/
def placeWord (nbits w : Nat) (s : State) : State :=
  s.setInput ((wordBytes (bytesOfBits nbits) w).map HostInput.byte ++ s.input)

/-- `print` (30_encoding.md R92 (b)): each byte of the string to `write`, in order, after the other pending inputs. -/
def placeString (bytes : List Byte) (s : State) : State :=
  s.setInput (s.input ++ bytes.map HostInput.byte)

end Sys2Proof.Machine
end

