-- ==== Sys2Proof/Machine/Step.lean ====
section
/-! DEFINITION. One step: the next host input, run as one atomic operation (10_state.md R21). -/

namespace Sys2Proof.Machine

/-- With an input pending, the step consumes it and is `exec` of its instruction; with none the block is idle and holds its state
(60_exceptions.md R223). -/
def step (s : State) : Host.Outcome State Fault Refusal :=
  match nextInput s with
  | none => .next s
  | some (i, t) => exec i t

/-- `s` with an encoded word as the host's next input (log entry 11). -/
def State.withFetchWord (s : State) (nbits w : Nat) : State := placeWord nbits w s

end Sys2Proof.Machine
end

