-- ==== Sys2Proof/Machine/Trace.lean ====
section
/-! DEFINITION. A reader of the block's output: which traces 20_memory.md R52, 30_encoding.md R80 to R82, R94 and
41_nibble_transport.md R151 to R155 allow. It reads the event list only; it is written from those rules and not from the
operations of Ops.lean. -/

namespace Sys2Proof.Machine

/-- The register-select line of a frame (R80). -/
def rsOf (b : Byte) : Bool := b.getLsbD Config.bitRS

/-- An enable strobe: the same byte with EN high, then low, and RW = 0 in both (R81, R151 (c)). -/
def strobePair (x y : Byte) : Bool :=
  x == strobeHigh y && !y.getLsbD Config.bitEN && !y.getLsbD Config.bitRW

/-- The byte is one of the commands of R82. -/
def knownCommand (v : Byte) : Bool :=
  match decodeCommand v with
  | .ok _ => true
  | .rejected _ => false

/-- Two strobes of one logical byte: the same control bits in both, and a command of R82 where RS = 0. -/
def bytePairs (a b c d : Byte) : Bool :=
  strobePair a b && strobePair c d && (b &&& 0x0F#8 == d &&& 0x0F#8)
    && (rsOf b || knownCommand (joinNibbles (highNibble b) (highNibble d)))

/-- One strobe of the force nibble (R82, last row). -/
def lonePair (a b : Byte) : Bool :=
  strobePair a b && !rsOf b && highNibble b == Config.nibble4bit

/-- The byte list of a transaction that starts with the register-select line at `last`: a pre-write stands at its head exactly
when its own register select differs from `last` (R94, R155). -/
def txBytesLegal (last : Bool) : List Byte → Bool
  | [a, b] => last == rsOf b && lonePair a b
  | [p, a, b] => last != rsOf b && p == b && lonePair a b
  | [a, b, c, d] => last == rsOf b && bytePairs a b c d
  | [p, a, b, c, d] => last != rsOf b && p == b && bytePairs a b c d
  | _ => false

/-- Where a reader of the trace stands: between transactions with the register-select line last driven, inside one with the bytes
read so far, or past an event the rules do not allow. -/
inductive TraceScan where
  | idle (lastRS : Bool)
  | inTx (lastRS : Bool) (bytes : List Byte)
  | illegal
  deriving DecidableEq, Repr

/-- One event read (R52: no nesting, no wait inside a transaction, the address is DEV_ADDR). -/
def scanEvent : TraceScan → Event → TraceScan
  | .idle rs, .txBegin a => if a = Config.devAddr then .inTx rs [] else .illegal
  | .idle rs, .wait _ => .idle rs
  | .inTx rs bs, .txByte b => .inTx rs (bs ++ [b])
  | .inTx rs bs, .txEnd _ => if txBytesLegal rs bs then .idle ((bs.getLast?.map rsOf).getD rs) else .illegal
  | _, _ => .illegal

/-- Read a trace from construction (10_state.md R34). -/
def scanTrace (tr : List Event) : TraceScan := tr.foldl scanEvent (.idle Config.initLastRS)

/-- The waits of a trace (70_reset_and_hazards.md R245). -/
def isWait : Event → Bool
  | .wait _ => true
  | .txBegin _ | .txByte _ | .txEnd _ => false

end Sys2Proof.Machine
end

