-- ==== Sys2Proof/Safety.lean ====
section
/-! DEFINITION. The terms claims use: a clean run (10_state.md R33), the invariants of a state, the conditions on the bus's answers,
and the byte and event lists the spec's laws give (41_nibble_transport.md R157), written from the laws and not from Ops.lean. -/

namespace Sys2Proof.Machine

/-- The premise a claim about a run takes at its end (R33). -/
abbrev State.Clean (s : State) : Prop := s.busFault = false ∧ s.refused = false

/-- The domains of 10_state.md R20, R22 to R26: once initialized, the geometry is in 1..255 by 1..4, the reserved mode bits are 0 and
the cursor lies within the geometry; the backlight level is in its domain always. -/
abbrev State.InDomains (s : State) : Prop :=
  (s.initialized = true →
    (1 ≤ s.columns ∧ s.columns ≤ 255) ∧ (1 ≤ s.lines ∧ s.lines ≤ 4) ∧
    s.entryMode.toNat < 4 ∧ s.displayControl.toNat < 8 ∧
    s.cursorCol < s.columns ∧ s.cursorRow < s.lines) ∧
  -32768 ≤ s.backlightLevel ∧ s.backlightLevel ≤ 32767

/-- A pending input the host can issue: a byte, or a host operation (30_encoding.md R91). It also admits a call of an input-byte row, a
GLYPH row with an escape byte among them, which no byte decodes to (DESIGN CHOICE, log entry 25). -/
def HostInput.legal : HostInput → Bool
  | .call i => i.fromHost
  | .byte _ => true

/-- Every pending input is one the host can issue. -/
abbrev State.HostOnly (s : State) : Prop := s.input.all HostInput.legal = true

/-- The trace is one the rules allow, and `lastRS` is the register-select level last driven (20_memory.md R52, R63 (a)). -/
abbrev State.TraceConforms (s : State) : Prop := scanTrace s.trace = .idle s.lastRS

/-- The next `n` closes succeed. -/
abbrev State.ClosesOk (s : State) (n : Nat) : Prop := ∀ k, k < n → s.answerAt k = true

/-! ## What the laws of the transport give -/

/-- The byte list of a `send(v, d)` transaction (R157): `last` is `lastRS` at its start, `bl` the backlight bit. -/
def sendBytes (bl last : Bool) (v : Byte) (d : Bool) : List Byte :=
  let h := frameByte bl (highNibble v) d
  let l := frameByte bl (lowNibble v) d
  if d = last then [h ||| 0x04#8, h, l ||| 0x04#8, l] else [h, h ||| 0x04#8, h, l ||| 0x04#8, l]

/-- The byte list of a `sendNibble(n)` transaction (R157). -/
def nibbleBytes (bl last : Bool) (n : Nibble) : List Byte :=
  let f := frameByte bl n false
  if last then [f, f ||| 0x04#8, f] else [f ||| 0x04#8, f]

/-- One transaction (20_memory.md R52). -/
def txEvents (bytes : List Byte) (ok : Bool) : List Event :=
  .txBegin Config.devAddr :: (bytes.map Event.txByte ++ [.txEnd ok])

/-- The backlight bit of every frame built in `s` (10_state.md R26). -/
def State.bl (s : State) : Bool := decide (s.backlightLevel > 0)

/-- The events of a successful `send` from register-select level `last`. -/
def sendEvents (bl last : Bool) (v : Byte) (d : Bool) : List Event := txEvents (sendBytes bl last v d) true

/-- The events of a successful `sendNibble`. -/
def nibbleEvents (bl last : Bool) (n : Nibble) : List Event := txEvents (nibbleBytes bl last n) true

/-- `s` after events with `n` closes that leave the register-select line at `rs`: nothing else of `s` changes. -/
def State.after (s : State) (evs : List Event) (n : Nat) (rs : Bool) : State :=
  { s with trace := s.trace ++ evs, lastRS := rs, busAnswers := s.busAnswers.drop n, closes := s.closes + n }

/-- `s` after one successful command: `command(b)` (40_display_state.md R110). -/
def State.commanded (s : State) (b : Byte) : State := s.after (sendEvents s.bl s.lastRS b false) 1 false

/-- The host got the outcome "completed", with the value returned (60_exceptions.md R211). -/
def State.completed (s : State) (value : Option Nat) : State := { s with results := s.results ++ [.returned value] }

/-- The operation was refused: only `refused` and the outcome change (95_test_vectors.md RF). -/
def State.turnedAway (s : State) (r : Refusal) : State :=
  { s with refused := true, results := s.results ++ [.refused r] }

/-- Trace events of the successful warm reset from register-select level `last` (40_display_state.md R126). -/
def reinitEvents (bl last : Bool) (lines : Nat) (em dc : Byte) : List Event :=
  sendEvents bl last 0x01#8 false ++ nibbleEvents bl false 0x2#4 ++ [.wait Config.settle1]
    ++ sendEvents bl false (if lines > 1 then 0x28#8 else 0x20#8) false
    ++ sendEvents bl false (0x04#8 ||| em) false ++ sendEvents bl false (0x08#8 ||| dc) false
    ++ sendEvents bl false 0x01#8 false ++ [.wait Config.settle2]

/-- Events of successful data sends, one transaction each, from register-select level `last`. -/
def dataEvents (bl : Bool) : Bool → List Byte → List Event
  | _, [] => []
  | last, b :: rest => sendEvents bl last b true ++ dataEvents bl true rest

/-- `s` after one command whose close fails, before any draw (60_exceptions.md R212, R213): the events up to the failing close, the
sticky flag, the failure as the outcome; `lastRS` is as the rules left it. -/
def State.commandFailed (s : State) (b : Byte) : State :=
  { s.after (txEvents (sendBytes s.bl s.lastRS b false) false) 1 false with
    busFault := true, results := s.results ++ [.raised .busFailure] }

/-- A close among events. -/
def isClose : Event → Bool
  | .txEnd _ => true
  | .txBegin _ | .txByte _ | .wait _ => false

/-- A failed close among events. -/
def isFailedClose : Event → Bool
  | .txEnd ok => !ok
  | .txBegin _ | .txByte _ | .wait _ => false

/-- The events' outcome for the host: a failed close, if any, is the last event, and exactly then the outcome is the failure and the
sticky flag is set (60_exceptions.md R212). -/
def FailureIsLast (s t : State) (evs : List Event) (o : OpOutcome) : Prop :=
  (evs.any isFailedClose = false ∧ o ≠ .raised .busFailure ∧ t.busFault = s.busFault) ∨
  (∃ before, evs = before ++ [.txEnd false] ∧ before.any isFailedClose = false ∧ o = .raised .busFailure ∧ t.busFault = true)

/-- The operation is `write` of a byte, so that its return value is the count (42_character_sink.md R181). -/
def returnsCount (i : Instr) : Bool :=
  match i with
  | .write _ => true
  | _ => i.format == .charIn

/-- The operation runs the warm reset (40_display_state.md R126): the only ones that wait (70_reset_and_hazards.md R245). -/
def runsReset (i : Instr) : Bool :=
  i == .reinitialize || i == .charReinit || i == .write 0x01#8 ||
  (match i with
    | .initializeBlock _ _ => true
    | _ => false)

end Sys2Proof.Machine
end

