-- ==== Sys2Proof/Certificates/Slice0/Obligations.lean ====
section
/-! DEFINITION. The statements for the provers. Each docstring names the rule of spec/ it formalises. A statement that an
operation completes assumes nothing but the mode (`initialized`), the operands' domains and the bus's answers to its closes.
Where the machine's own choices enter (log entries), the docstring says so. -/

open Sys2Proof Sys2Proof.Machine

/-! ## Reset, step, decoding -/

/-- 10_state.md R34, 70_reset_and_hazards.md R240: the values the spec gives at construction, and no event emitted. -/
def Obligations.ResetHoldsConstructionValues : Prop :=
  State.reset.initialized = false ∧ State.reset.backlightLevel = 0 ∧ State.reset.lastRS = Config.initLastRS ∧
  State.reset.busFault = false ∧ State.reset.refused = false ∧ State.reset.trace = []

/-- 00_scope.md R5, 10_state.md R21, 60_exceptions.md R223: a pending call is run as its operation, a pending byte as the row it decodes
to, each consumed; a placed word runs next; with nothing pending the block holds its state. The queue of pending inputs is the model's
(log entry 11), and so is the last clause's reading of every one-byte table word as an input byte (log entry 12, DEDUCED). -/
def Obligations.StepRunsNextHostInput : Prop :=
  (∀ (s : State) (i : Instr) (rest : List HostInput), s.input = .call i :: rest → step s = exec i { s with input := rest }) ∧
  (∀ (s : State) (b : Byte) (rest : List HostInput),
    s.input = .byte b :: rest → step s = exec (decodeChar b) { s with input := rest }) ∧
  (∀ (s : State), s.input = [] → step s = .next s) ∧
  (∀ (s : State) (w : Nat), w < 256 → step (s.withFetchWord 8 w) = exec (decodeChar (BitVec.ofNat 8 w)) s) ∧
  (∀ w : Nat, w < 256 → decodeTableWord 8 w = some (decodeChar (BitVec.ofNat 8 w)))

/-- 30_encoding.md R90, R82, R80: a few words, read as the tables print them. -/
def Obligations.TableWordsDecode : Prop :=
  decodeTableWord 8 0x01 = some .charReinit ∧ decodeTableWord 8 0x0A = some .charLf ∧
  decodeTableWord 8 0x41 = some (.charGlyph 0x41#8) ∧
  decodeCommand 0x06#8 = .ok (.cmdEntryModeSet true false) ∧ decodeCommand 0x0D#8 = .ok (.cmdDisplayControl true false true) ∧
  decodeCommand 0x1C#8 = .ok (.cmdDisplayShift true) ∧ decodeCommand 0xC3#8 = .ok (.cmdSetDdramAddr 0x43#7) ∧
  decodeCommand 0x02#8 = .rejected .returnHome ∧ decodeFrame 0x4D#8 = .ok (.frame 0x4#4 true true true) ∧
  decodeFrame 0x02#8 = .rejected .readFrame

/-- 30_encoding.md R80, R82, R90: decoding the encoding of a well-formed instruction gives it back, at every operand. -/
def Obligations.DecodeOfEncodeIsTheInstruction : Prop :=
  ∀ (i : Instr) (e : Encoded), i.wellFormed = true → encode i = some e → decodeEncoded e = .ok i

/-- 30_encoding.md R90, R93: what a decoder accepts is well formed and has exactly that word. -/
def Obligations.EncodeOfDecodeIsTheWord : Prop :=
  ∀ (e : Encoded) (i : Instr), decodeEncoded e = .ok i → encode i = some e ∧ i.wellFormed = true

/-- 30_encoding.md R82: no byte lies in the rows of two controller commands. -/
def Obligations.CommandRowsDoNotOverlap : Prop :=
  ∀ (i j : Instr) (mi bi mj bj b : Byte), i.format = .ctrlCmd → j.format = .ctrlCmd → i ≠ .cmdForceNibble → j ≠ .cmdForceNibble →
    i.tableBits = some (mi, bi) → j.tableBits = some (mj, bj) → b &&& mi = bi → b &&& mj = bj → mi = mj ∧ bi = bj

/-! ## Address calculators -/

/-- 30_encoding.md R83: for a wrapped position the Set-DDRAM byte is the truncated sum, its top bit is 1, its address field is the sum
modulo 128, and with at most 44 columns nothing is truncated. -/
def Obligations.SetDdramByteIsTopBitAndAddressModulo128 : Prop :=
  ∀ (c r columns lines : Nat), c < columns → r < lines → lines ≤ 4 →
    (ddramCmd c r).toNat = (0x80 ||| ((rowOffset r).toNat + c)) % 256 ∧
    (ddramCmd c r).getLsbD 7 = true ∧
    (ddramCmd c r).extractLsb' 0 7 = BitVec.ofNat 7 ((rowOffset r).toNat + c) ∧
    (ddramCmd c r).toNat = 0x80 + ((rowOffset r).toNat + c) % 128 ∧
    (columns ≤ 44 → (ddramCmd c r).toNat = 0x80 + ((rowOffset r).toNat + c))

/-- 40_display_state.md R112 with the table of 10_state.md R28: the command base of each row, for every column whose sum with the row's
offset stays below 0x80. -/
def Obligations.DdramRowBases : Prop :=
  ∀ c : Nat, (c < 128 → ddramCmd c 0 = BitVec.ofNat 8 (0x80 + c)) ∧ (c < 64 → ddramCmd c 1 = BitVec.ofNat 8 (0xC0 + c)) ∧
    (c < 108 → ddramCmd c 2 = BitVec.ofNat 8 (0x94 + c)) ∧ (c < 44 → ddramCmd c 3 = BitVec.ofNat 8 (0xD4 + c))

/-- 42_character_sink.md R191: the CGRAM command of every slot argument, `01sss000` with `sss` the slot masked to 3 bits. -/
def Obligations.CgramByteMasksTheSlot : Prop :=
  ∀ s : Nat, cgramCmd s = (0b01#2 ++ BitVec.ofNat 3 s ++ 0b000#3 : BitVec 8) ∧ (cgramCmd s).toNat = 0x40 + 8 * (s % 8)

/-! ## The transport -/

/-- 41_nibble_transport.md R151, 30_encoding.md R80: `writeNibble` appends the frame bytes and leaves `lastRS` at its register select. That
a FRAME row runs by itself as one bus byte and leaves `lastRS` is the model's (log entries 13, DESIGN CHOICE, and 16, DEDUCED from
10_state.md R27). -/
def Obligations.NibbleWriteAndFrameComplete : Prop :=
  (∀ (s : State) (n : Nibble) (d : Bool),
    exec (.writeNibble n d) s = .next { s with
      trace := s.trace ++ (if d = s.lastRS then [] else [.txByte (frameByte s.bl n d)])
        ++ [.txByte (frameByte s.bl n d ||| 0x04#8), .txByte (frameByte s.bl n d)]
      lastRS := d }) ∧
  (∀ (s : State) (n : Nibble) (b e r : Bool),
    exec (.frame n b e r) s = .next { s with
      trace := s.trace ++ [.txByte (n ++ BitVec.ofBool b ++ BitVec.ofBool e ++ 0b0#1 ++ BitVec.ofBool r : BitVec 8)] })

/-- 41_nibble_transport.md R150: the frame's fields, for the level held when it is built. -/
def Obligations.FrameCarriesNibbleBacklightAndRegisterSelect : Prop :=
  ∀ (s : State) (n : Nibble) (d : Bool),
    s.frame n d = (n ++ BitVec.ofBool (decide (s.backlightLevel > 0)) ++ 0b00#2 ++ BitVec.ofBool d : BitVec 8)

/-- 41_nibble_transport.md R152, R153: `send` and `sendNibble` complete with one transaction of the bytes R157 gives. -/
def Obligations.SendsComplete : Prop :=
  (∀ (s : State) (v : Byte) (d : Bool), s.ClosesOk 1 →
    exec (.send v d) s = .next (s.after (sendEvents s.bl s.lastRS v d) 1 d)) ∧
  (∀ (s : State) (n : Nibble), s.ClosesOk 1 →
    exec (.sendNibble n) s = .next (s.after (nibbleEvents s.bl s.lastRS n) 1 false))

/-- 41_nibble_transport.md R157: the byte list of a `send` and of a `sendNibble` transaction, however its close ends. -/
def Obligations.TransactionByteLists : Prop :=
  (∀ (s : State) (v : Byte) (d : Bool), ∃ t, exec (.send v d) s = .next t ∧
    t.trace = s.trace ++ txEvents (sendBytes s.bl s.lastRS v d) (s.answerAt 0)) ∧
  (∀ (s : State) (n : Nibble), ∃ t, exec (.sendNibble n) s = .next t ∧
    t.trace = s.trace ++ txEvents (nibbleBytes s.bl s.lastRS n) (s.answerAt 0))

/-- 41_nibble_transport.md R156: the two enable-high bytes of a `send` carry the byte's halves, which join to it; every byte carries the
register select and the backlight bit. -/
def Obligations.SendRoundTrip : Prop :=
  ∀ (s : State) (v : Byte) (d : Bool), ∃ (t : State) (bytes : List Byte), exec (.send v d) s = .next t ∧
    t.trace = s.trace ++ txEvents bytes (s.answerAt 0) ∧
    (∃ h l : Nibble, (bytes.filter fun b => b.getLsbD 2).map (fun b => b.extractLsb' 4 4) = [h, l] ∧ (h ++ l : BitVec 8) = v) ∧
    (∀ b ∈ bytes, b.getLsbD 0 = d ∧ b.getLsbD 3 = decide (s.backlightLevel > 0))

/-- 41_nibble_transport.md R160: a `send` delivers exactly two nibbles, high then low, and a `sendNibble` one. -/
def Obligations.DeliveredNibblesOfTransactions : Prop :=
  ∀ (s : State) (v : Byte) (d : Bool) (n : Nibble), ∃ (t u : State) (bs cs : List Byte),
    exec (.send v d) s = .next t ∧ t.trace = s.trace ++ txEvents bs (s.answerAt 0) ∧
    deliveredNibbles bs = [(highNibble v, d), (lowNibble v, d)] ∧
    exec (.sendNibble n) s = .next u ∧ u.trace = s.trace ++ txEvents cs (s.answerAt 0) ∧
    deliveredNibbles cs = [(n, false)]

/-- 41_nibble_transport.md R155, 30_encoding.md R94: of two sends in a row the second has no pre-write when the register select is the
same and has one when it differs; the first has one when its register select differs from `lastRS`. -/
def Obligations.PreWriteExactlyWhenRegisterSelectChanges : Prop :=
  ∀ (s t u : State) (v w : Byte) (d e : Bool), exec (.send v d) s = .next t → exec (.send w e) t = .next u →
    t.trace.length = s.trace.length + 2 + (if d = s.lastRS then 4 else 5) ∧
    u.trace.length = t.trace.length + 2 + (if e = d then 4 else 5)

/-- 41_nibble_transport.md R158: what a `send` puts on the bus depends on no field but the backlight bit and `lastRS`, and on the bus's
answer. -/
def Obligations.SendReadsOnlyBacklightAndLastRS : Prop :=
  ∀ (s s' : State) (v : Byte) (d : Bool), decide (s.backlightLevel > 0) = decide (s'.backlightLevel > 0) → s.lastRS = s'.lastRS →
    s.answerAt 0 = s'.answerAt 0 →
    ∃ (t t' : State) (evs : List Event), exec (.send v d) s = .next t ∧ exec (.send v d) s' = .next t' ∧
      t.trace = s.trace ++ evs ∧ t'.trace = s'.trace ++ evs ∧ t.lastRS = t'.lastRS

/-- 30_encoding.md R82 to R87: each controller command row puts its pattern on the bus with RS = 0, the force nibble as one nibble. -/
def Obligations.ControllerCommandsComplete : Prop :=
  ∀ s : State, s.ClosesOk 1 →
    exec .cmdClear s = .next (s.commanded 0b00000001#8) ∧
    (∀ i e, exec (.cmdEntryModeSet i e) s = .next (s.commanded (0b000001#6 ++ BitVec.ofBool i ++ BitVec.ofBool e : BitVec 8))) ∧
    (∀ d c b, exec (.cmdDisplayControl d c b) s =
      .next (s.commanded (0b00001#5 ++ BitVec.ofBool d ++ BitVec.ofBool c ++ BitVec.ofBool b : BitVec 8))) ∧
    (∀ r, exec (.cmdDisplayShift r) s = .next (s.commanded (0b00011#5 ++ BitVec.ofBool r ++ 0b00#2 : BitVec 8))) ∧
    (∀ n, exec (.cmdFunctionSet n) s = .next (s.commanded (0b0010#4 ++ BitVec.ofBool n ++ 0b000#3 : BitVec 8))) ∧
    (∀ a, exec (.cmdSetCgramAddr a) s = .next (s.commanded (0b01#2 ++ a ++ 0b000#3 : BitVec 8))) ∧
    (∀ a, exec (.cmdSetDdramAddr a) s = .next (s.commanded (0b1#1 ++ a : BitVec 8))) ∧
    exec .cmdNull s = .next (s.commanded 0b00000000#8) ∧
    exec .cmdForceNibble s = .next (s.after (nibbleEvents s.bl s.lastRS 0b0010#4) 1 false)

/-! ## Mutators and shifts -/

/-- 40_display_state.md R114 to R119: each sets or clears its bit and sends `0x08 | displayControl`, also when nothing changed. -/
def Obligations.DisplayControlMutatorsComplete : Prop :=
  ∀ s : State, s.initialized = true → s.ClosesOk 1 →
    let out := fun v : Byte => Host.Outcome.next ((({ s with displayControl := v } : State).commanded (0x08#8 ||| v)).completed none)
    exec .displayOn s = out (s.displayControl ||| 0x04#8) ∧ exec .displayOff s = out (s.displayControl &&& ~~~0x04#8) ∧
    exec .cursorOn s = out (s.displayControl ||| 0x02#8) ∧ exec .cursorOff s = out (s.displayControl &&& ~~~0x02#8) ∧
    exec .blinkOn s = out (s.displayControl ||| 0x01#8) ∧ exec .blinkOff s = out (s.displayControl &&& ~~~0x01#8)

/-- 40_display_state.md R120 to R123: each sets or clears its bit and sends `0x04 | entryMode`, also when nothing changed. -/
def Obligations.EntryModeMutatorsComplete : Prop :=
  ∀ s : State, s.initialized = true → s.ClosesOk 1 →
    let out := fun v : Byte => Host.Outcome.next ((({ s with entryMode := v } : State).commanded (0x04#8 ||| v)).completed none)
    exec .leftToRight s = out (s.entryMode ||| 0x02#8) ∧ exec .rightToLeft s = out (s.entryMode &&& ~~~0x02#8) ∧
    exec .autoscrollOn s = out (s.entryMode ||| 0x01#8) ∧ exec .autoscrollOff s = out (s.entryMode &&& ~~~0x01#8)

/-- 30_encoding.md R85, R86: from a state in its domains the mutators send bytes in 0x04..0x07 and 0x08..0x0F only. -/
def Obligations.MutatorBytesStayInTheirRows : Prop :=
  ∀ s : State, s.initialized = true → s.InDomains → s.ClosesOk 1 →
    (∀ i ∈ [Instr.displayOn, .displayOff, .cursorOn, .cursorOff, .blinkOn, .blinkOff],
      ∃ v : Byte, 0x08 ≤ v.toNat ∧ v.toNat ≤ 0x0F ∧ ∃ t, exec i s = .next t ∧
        t.trace = s.trace ++ sendEvents s.bl s.lastRS v false) ∧
    (∀ i ∈ [Instr.leftToRight, .rightToLeft, .autoscrollOn, .autoscrollOff],
      ∃ v : Byte, 0x04 ≤ v.toNat ∧ v.toNat ≤ 0x07 ∧ ∃ t, exec i s = .next t ∧
        t.trace = s.trace ++ sendEvents s.bl s.lastRS v false)

/-- 40_display_state.md R124, R125: the fixed commands 0x1C and 0x18; no field but `lastRS` changes. 60_exceptions.md R212, R213: after a
failed close every other field is kept too; that the failure is a next state is the model's form of it (log entry 3, DEDUCED). -/
def Obligations.ScrollsSendTheirFixedCommand : Prop :=
  ∀ s : State, s.initialized = true →
    (s.ClosesOk 1 → exec .scrollLeft s = .next ((s.commanded 0x1C#8).completed none) ∧
      exec .scrollRight s = .next ((s.commanded 0x18#8).completed none)) ∧
    (s.answerAt 0 = false → exec .scrollLeft s = .next (s.commandFailed 0x1C#8) ∧
      exec .scrollRight s = .next (s.commandFailed 0x18#8))

/-! ## Cursor -/

/-- 40_display_state.md R111: a `setCursor` to the stored position does nothing; any other wraps, stores and sends the Set-DDRAM
command; if that close fails the cursor is left anywhere within the geometry (the draw is the model's free value, log entry 6; the
failure is a next state, log entry 3). -/
def Obligations.SetCursorDeduplicatesWrapsAndSends : Prop :=
  ∀ (s : State) (col row : Int), s.initialized = true → 0 ≤ col → col ≤ 255 → 0 ≤ row → row ≤ 255 →
    let c := col.toNat % s.columns
    let r := row.toNat % s.lines
    if col = s.cursorCol ∧ row = s.cursorRow then exec (.setCursor col row) s = .next (s.completed none)
    else
      (s.ClosesOk 1 → exec (.setCursor col row) s =
        .next ((({ s with cursorCol := c, cursorRow := r } : State).commanded (ddramCmd c r)).completed none)) ∧
      (s.answerAt 0 = false → 0 < s.columns → 0 < s.lines → ∃ c' r', c' < s.columns ∧ r' < s.lines ∧
        exec (.setCursor col row) s =
          .next { s.commandFailed (ddramCmd c r) with cursorCol := c', cursorRow := r', draws := s.draws + 2 })

/-- 40_display_state.md R113: `home` is `setCursor 0, 0`: nothing at (0, 0), else the command 0x80 and the cursor at (0, 0). -/
def Obligations.HomeIsSetCursorZeroZero : Prop :=
  ∀ s : State, exec .home s = exec (.setCursor 0 0) s ∧
    (s.initialized = true →
      (s.cursorCol = 0 → s.cursorRow = 0 → exec .home s = .next (s.completed none)) ∧
      (¬(s.cursorCol = 0 ∧ s.cursorRow = 0) → s.ClosesOk 1 → exec .home s =
        .next ((({ s with cursorCol := 0, cursorRow := 0 } : State).commanded 0x80#8).completed none)))

/-- 40_display_state.md R111 (b): of two identical calls within the geometry the second does nothing, once the first has completed. -/
def Obligations.RepeatedSetCursorEmitsNothing : Prop :=
  ∀ (s t : State) (col row : Int), s.initialized = true → 0 ≤ col → col ≤ 255 → 0 ≤ row → row ≤ 255 →
    col < s.columns → row < s.lines → s.ClosesOk 1 → exec (.setCursor col row) s = .next t →
    exec (.setCursor col row) t = .next (t.completed none)

/-! ## Reset sequence -/

/-- 40_display_state.md R126: the six transactions and two waits in order; the cursor at (0, 0) without a command; modes, geometry and
backlight kept. -/
def Obligations.ReinitializeCompletes : Prop :=
  ∀ s : State, s.initialized = true → s.ClosesOk 6 →
    exec .reinitialize s =
      .next (({ s.after (reinitEvents s.bl s.lastRS s.lines s.entryMode s.displayControl) 6 false with
        cursorRow := 0, cursorCol := 0 } : State).completed none)

/-- 40_display_state.md R126, 60_exceptions.md R212, R213, R217: a failure of the `k`-th close ends the sequence there: up to that close
the events are those of the whole sequence, the failed close is the last, and the fields the rule only reads are kept. The failure is
a next state in this model (log entry 3). -/
def Obligations.ReinitializeStopsAtTheFirstFailedClose : Prop :=
  ∀ (s : State) (k : Nat), s.initialized = true → k < 6 → s.ClosesOk k → s.answerAt k = false →
    ∃ t evs rest, exec .reinitialize s = .next t ∧ t.trace = s.trace ++ evs ++ [.txEnd false] ∧ evs.any isFailedClose = false ∧
      reinitEvents s.bl s.lastRS s.lines s.entryMode s.displayControl = evs ++ .txEnd true :: rest ∧ evs.countP isClose = k ∧
      t.closes = s.closes + k + 1 ∧ t.results = s.results ++ [.raised .busFailure] ∧ t.busFault = true ∧ t.lastRS = false ∧
      t.entryMode = s.entryMode ∧ t.displayControl = s.displayControl ∧ t.columns = s.columns ∧ t.lines = s.lines ∧
      t.backlightLevel = s.backlightLevel ∧ (evs.filter isWait).length = (if k ≤ 1 then 0 else 1)

/-- 40_display_state.md R127, 10_state.md R35: `initialize` in its domain stores the geometry, loads the defaults and runs the reset
sequence with them. -/
def Obligations.InitializeCompletes : Prop :=
  ∀ (s : State) (c l : Int), s.initialized = false → 1 ≤ c → c ≤ 255 → 1 ≤ l → l ≤ 4 → s.ClosesOk 6 →
    exec (.initializeBlock c l) s =
      .next (({ s.after (reinitEvents s.bl s.lastRS l.toNat 0x02#8 0x04#8) 6 false with
        initialized := true, columns := c.toNat, lines := l.toNat, entryMode := 0x02#8, displayControl := 0x04#8,
        cursorRow := 0, cursorCol := 0 } : State).completed none)

/-! ## Character sink, glyphs, backlight -/

/-- 42_character_sink.md R180, R90: `write` of a byte is the row the byte decodes to. -/
def Obligations.WriteIsTheDecodedRow : Prop :=
  ∀ (ch : Byte) (s : State), exec (.write ch) s = exec (decodeChar ch) s

/-- 42_character_sink.md R182: `write 0x01` has exactly the effect and events of `reinitialize`, and returns 1 (R181). -/
def Obligations.WriteReinitCompletes : Prop :=
  ∀ s : State, s.initialized = true → s.ClosesOk 6 →
    let out := Host.Outcome.next (({ s.after (reinitEvents s.bl s.lastRS s.lines s.entryMode s.displayControl) 6 false with
      cursorRow := 0, cursorCol := 0 } : State).completed (some 1))
    exec .charReinit s = out ∧ exec (.write 0x01#8) s = out

/-- 42_character_sink.md R183: `write 0x02` is `home`, with its deduplication, and returns 1 (R181). -/
def Obligations.WriteHomeCompletes : Prop :=
  ∀ s : State, s.initialized = true →
    let out := fun t : State => Host.Outcome.next (t.completed (some 1))
    (s.cursorCol = 0 → s.cursorRow = 0 → exec .charHome s = out s ∧ exec (.write 0x02#8) s = out s) ∧
    (¬(s.cursorCol = 0 ∧ s.cursorRow = 0) → s.ClosesOk 1 →
      exec .charHome s = out (({ s with cursorCol := 0, cursorRow := 0 } : State).commanded 0x80#8) ∧
      exec (.write 0x02#8) s = out (({ s with cursorCol := 0, cursorRow := 0 } : State).commanded 0x80#8))

/-- 42_character_sink.md R185: CR goes to column 0 of the same row, emits nothing at column 0, and returns 1. -/
def Obligations.CarriageReturnCompletes : Prop :=
  ∀ s : State, s.initialized = true → s.cursorRow < s.lines →
    let out := fun t : State => Host.Outcome.next (t.completed (some 1))
    (s.cursorCol = 0 → exec .charCr s = out s ∧ exec (.write 0x0D#8) s = out s) ∧
    (s.cursorCol ≠ 0 → s.ClosesOk 1 →
      exec .charCr s = out (({ s with cursorCol := 0 } : State).commanded (ddramCmd 0 s.cursorRow)) ∧
      exec (.write 0x0D#8) s = out (({ s with cursorCol := 0 } : State).commanded (ddramCmd 0 s.cursorRow)))

/-- 42_character_sink.md R186: LF keeps the column, goes to the next row modulo `lines`, always sends its command, and returns 1. -/
def Obligations.LineFeedCompletes : Prop :=
  ∀ s : State, s.initialized = true → s.cursorCol < s.columns → s.ClosesOk 1 →
    let out := Host.Outcome.next ((({ s with cursorRow := (s.cursorRow + 1) % s.lines } : State).commanded
      (ddramCmd s.cursorCol ((s.cursorRow + 1) % s.lines))).completed (some 1))
    exec .charLf s = out ∧ exec (.write 0x0A#8) s = out

/-- 42_character_sink.md R187: a glyph short of the last column: the byte as data, the column one further, no command, whatever
`entryMode` holds. For a GLYPH row that carries an escape byte this is the model's choice (log entry 25). -/
def Obligations.GlyphAdvancesTheColumn : Prop :=
  ∀ (s : State) (ch : Byte), s.initialized = true → s.cursorCol + 1 ≠ s.columns → s.ClosesOk 1 →
    let out := Host.Outcome.next (({ s.after (sendEvents s.bl s.lastRS ch true) 1 true with
      cursorCol := s.cursorCol + 1 } : State).completed (some 1))
    exec (.charGlyph ch) s = out ∧ (ch ∉ escapeBytes → exec (.write ch) s = out)

/-- 42_character_sink.md R187, R188: a glyph in the last column: the byte as data, then the Set-DDRAM command of column 0 of the next
row modulo `lines`. For a GLYPH row that carries an escape byte this is the model's choice (log entry 25). -/
def Obligations.GlyphWrapsToTheNextRow : Prop :=
  ∀ (s : State) (ch : Byte), s.initialized = true → s.cursorCol + 1 = s.columns → s.ClosesOk 2 →
    let r := (s.cursorRow + 1) % s.lines
    let out := Host.Outcome.next (({ s.after
      (sendEvents s.bl s.lastRS ch true ++ sendEvents s.bl true (ddramCmd 0 r) false) 2 false with
      cursorCol := 0, cursorRow := r } : State).completed (some 1))
    exec (.charGlyph ch) s = out ∧ (ch ∉ escapeBytes → exec (.write ch) s = out)

/-- 42_character_sink.md R188: rows are circular: a glyph at the last cell leaves the cursor at (0, 0) and sends 0x80, and every row
argument at or past `lines` resolves to a row below `lines`. That the row is below `lines` after a failed close too is the draw of
60_exceptions.md R213 as the model makes it (log entry 6); a GLYPH row that carries an escape byte is log entry 25. -/
def Obligations.RowsAreCircular : Prop :=
  (∀ (s : State) (ch : Byte), s.initialized = true → s.cursorCol + 1 = s.columns → s.cursorRow + 1 = s.lines → s.ClosesOk 2 →
    ∃ t, exec (.charGlyph ch) s = .next t ∧ t.cursorCol = 0 ∧ t.cursorRow = 0 ∧
      t.trace = s.trace ++ sendEvents s.bl s.lastRS ch true ++ sendEvents s.bl true 0x80#8 false) ∧
  (∀ (s : State) (col row : Int), s.initialized = true → s.InDomains → 0 ≤ col → col ≤ 255 → 0 ≤ row → row ≤ 255 →
    (s.lines : Int) ≤ row → ∃ t, exec (.setCursor col row) s = .next t ∧ t.cursorRow < s.lines ∧
      (s.ClosesOk 1 → (t.cursorRow : Int) = row % s.lines)) ∧
  (∀ (s : State) (ch : Byte), s.initialized = true → s.InDomains → ∃ t, exec (.charGlyph ch) s = .next t ∧ t.cursorRow < s.lines)

/-- 42_character_sink.md R184: the fill to the end of the line, the wrap's command, and the restore, which is left out exactly when the
wrap already stands at the start (one line, column 0); the cursor ends where it was. -/
def Obligations.ClearToEndOfLineCompletes : Prop :=
  ∀ s : State, s.initialized = true → s.cursorCol < s.columns → s.cursorRow < s.lines →
    let k := s.columns - s.cursorCol
    let stays := s.lines = 1 ∧ s.cursorCol = 0
    let n := k + 1 + (if stays then 0 else 1)
    s.ClosesOk n →
    let out := Host.Outcome.next ((s.after
      (dataEvents s.bl s.lastRS (List.replicate k 0x20#8)
        ++ sendEvents s.bl true (ddramCmd 0 ((s.cursorRow + 1) % s.lines)) false
        ++ (if stays then [] else sendEvents s.bl false (ddramCmd s.cursorCol s.cursorRow) false)) n false).completed (some 1))
    exec .charClrEol s = out ∧ exec (.write 0x03#8) s = out

/-- 42_character_sink.md R190: the CGRAM command, then the eight pattern bytes as data, one transaction each; no cursor interaction. -/
def Obligations.CreateCharCompletes : Prop :=
  ∀ (s : State) (slot : Int) (p : List Byte), s.initialized = true → 0 ≤ slot → slot ≤ 255 → p.length = 8 → s.ClosesOk 9 →
    exec (.createChar slot p) s =
      .next ((s.after (sendEvents s.bl s.lastRS (0b01#2 ++ BitVec.ofNat 3 slot.toNat ++ 0b000#3 : BitVec 8) false
        ++ dataEvents s.bl false p) 9 true).completed none)

/-- 42_character_sink.md R192: the level is stored and the null command sent with the new backlight bit, also when the bit does not
change; if the close fails the level is left anywhere in its domain (the draw is the model's free value, log entry 6; the failure is a
next state, log entry 3). -/
def Obligations.SetBacklightStoresAndSends : Prop :=
  ∀ (s : State) (level : Int), s.initialized = true → -32768 ≤ level → level ≤ 32767 →
    (s.ClosesOk 1 → exec (.setBacklight level) s =
      .next ((({ s with backlightLevel := level } : State).commanded 0x00#8).completed none)) ∧
    (s.answerAt 0 = false → ∃ lv : Int, -32768 ≤ lv ∧ lv ≤ 32767 ∧ exec (.setBacklight level) s =
      .next { ({ s with backlightLevel := level } : State).commandFailed 0x00#8 with
        backlightLevel := lv, draws := s.draws + 1 })

/-- 70_reset_and_hazards.md R247, 42_character_sink.md R187 (a): apart from `write 0x01`, which re-sends the modes, what a byte does does
not depend on `entryMode` or `displayControl`, and leaves both. -/
def Obligations.WriteApartFromReinitNeverConsultsTheModes : Prop :=
  ∀ (s t : State) (ch em dc : Byte), ch ≠ 0x01#8 → exec (.write ch) s = .next t →
    exec (.write ch) { s with entryMode := em, displayControl := dc } = .next { t with entryMode := em, displayControl := dc }

/-! ## Refusals -/

/-- 10_state.md R29, D15: before `initialize` every other host operation is refused, with no effect but the mark. A refusal is a next
state in this model (log entry 2). That the reason is NotInitialized also where an argument is out of its domain is the model's order of
the checks (log entry 18, DEDUCED). -/
def Obligations.HostOperationsAreRefusedBeforeInitialize : Prop :=
  ∀ (i : Instr) (s : State), i.fromHost = true → (∀ c l, i ≠ .initializeBlock c l) → s.initialized = false →
    exec i s = .next (s.turnedAway .notInitialized)

/-- 40_display_state.md R127, D15, D16: a second `initialize` is refused, and so is a geometry outside 1..255 by 1..4. -/
def Obligations.InitializeIsRefusedTwiceAndOutOfDomain : Prop :=
  ∀ (s : State) (c l : Int),
    (s.initialized = true → exec (.initializeBlock c l) s = .next (s.turnedAway .alreadyInitialized)) ∧
    (s.initialized = false → ¬(1 ≤ c ∧ c ≤ 255 ∧ 1 ≤ l ∧ l ≤ 4) →
      exec (.initializeBlock c l) s = .next (s.turnedAway .geometryOutOfDomain))

/-- 30_encoding.md R93 (b), D17: arguments outside their domains are refused; where a `createChar` breaks two rules the reason is one of
the two (log entry 18). A refusal is a next state in this model (log entry 2). -/
def Obligations.ArgumentsOutOfDomainAreRefused : Prop :=
  ∀ s : State, s.initialized = true →
    (∀ col row : Int, ¬(0 ≤ col ∧ col ≤ 255 ∧ 0 ≤ row ∧ row ≤ 255) →
      exec (.setCursor col row) s = .next (s.turnedAway .argumentOutOfDomain)) ∧
    (∀ level : Int, ¬(-32768 ≤ level ∧ level ≤ 32767) →
      exec (.setBacklight level) s = .next (s.turnedAway .argumentOutOfDomain)) ∧
    (∀ (slot : Int) (p : List Byte), ¬(0 ≤ slot ∧ slot ≤ 255) → p.length = 8 →
      exec (.createChar slot p) s = .next (s.turnedAway .argumentOutOfDomain)) ∧
    (∀ (slot : Int) (p : List Byte), 0 ≤ slot → slot ≤ 255 → p.length ≠ 8 →
      exec (.createChar slot p) s = .next (s.turnedAway .patternLength)) ∧
    (∀ (slot : Int) (p : List Byte), ¬(0 ≤ slot ∧ slot ≤ 255) → p.length ≠ 8 →
      exec (.createChar slot p) s = .next (s.turnedAway .argumentOutOfDomain) ∨
      exec (.createChar slot p) s = .next (s.turnedAway .patternLength))

/-- 00_scope.md R11, 10_state.md R33: a host operation that is refused has no effect but the mark and the outcome, and one that is not
refused leaves the mark as it was. A refusal is a next state in this model (log entry 2). -/
def Obligations.RefusalHasNoEffectButItsMark : Prop :=
  ∀ (i : Instr) (s : State), i.fromHost = true → ∃ t o, exec i s = .next t ∧ t.results = s.results ++ [o] ∧
    (∀ r, o = .refused r → t = s.turnedAway r) ∧ ((∀ r, o ≠ .refused r) → t.refused = s.refused)

/-! ## Faults, flags, observation -/

/-- 60_exceptions.md R212, R214, 20_memory.md R51: a host operation only appends events, gives the host one outcome, and a failed close
is its last event, exactly when the outcome is the failure. The failure is a next state in this model (log entry 3). -/
def Obligations.BusFailureEndsTheOperation : Prop :=
  ∀ (i : Instr) (s : State), i.fromHost = true → ∃ t evs o, exec i s = .next t ∧ t.trace = s.trace ++ evs ∧
    t.results = s.results ++ [o] ∧ FailureIsLast s t evs o

/-- 60_exceptions.md R212: up to the close that fails, the events of an aborted operation are those of the same operation from the same
state where the bus's answers let it complete; the close that fails is the one the bus refuses. It covers an aborted `initialize`,
reset sequence, 0x03 fill, glyph wrap and `createChar`. The failure is a next state in this model (log entry 3). -/
def Obligations.AbortedOperationIsCutAtItsFailedClose : Prop :=
  ∀ (i : Instr) (s t u : State) (answers : List Bool) (closes : Nat) (v : Option Nat), i.fromHost = true →
    exec i s = .next t → t.results = s.results ++ [.raised .busFailure] →
    exec i { s with busAnswers := answers, closes := closes } = .next u → u.results = s.results ++ [.returned v] →
    ∃ evs rest, t.trace = s.trace ++ evs ++ [.txEnd false] ∧ evs.any isFailedClose = false ∧
      s.answerAt (evs.countP isClose) = false ∧ u.trace = s.trace ++ evs ++ .txEnd true :: rest

/-- 42_character_sink.md R181, 00_scope.md R6: what a completed operation returns: 1 for `write` and its bytes, nothing else for the
others. -/
def Obligations.OnlyWriteReturnsAValue : Prop :=
  ∀ (i : Instr) (s t : State) (v : Option Nat), i.fromHost = true → exec i s = .next t →
    t.results = s.results ++ [.returned v] → v = if returnsCount i then some 1 else none

/-- 10_state.md R33: no step clears `busFault` or `refused`. -/
def Obligations.FaultAndRefusalMarksAreSticky : Prop :=
  ∀ s t : State, step s = .next t → (s.busFault = true → t.busFault = true) ∧ (s.refused = true → t.refused = true)

/-- 20_memory.md R51: no step removes or changes an event. -/
def Obligations.TraceIsAppendOnly : Prop :=
  ∀ s t : State, step s = .next t → ∃ evs, t.trace = s.trace ++ evs

/-- 70_reset_and_hazards.md R245, 41_nibble_transport.md R159: no instruction waits but those that run the reset sequence. -/
def Obligations.OnlyTheResetSequenceWaits : Prop :=
  ∀ (i : Instr) (s t : State), runsReset i = false → exec i s = .next t → t.trace.countP isWait = s.trace.countP isWait

/-! ## Frames -/

/-- 40_display_state.md R114 to R119: a display-control mutator leaves every other DisplayState field, however it ends. -/
def Obligations.DisplayControlMutatorsFrame : Prop :=
  ∀ (i : Instr) (s t : State), i ∈ [Instr.displayOn, .displayOff, .cursorOn, .cursorOff, .blinkOn, .blinkOff] → exec i s = .next t →
    t.initialized = s.initialized ∧ t.columns = s.columns ∧ t.lines = s.lines ∧ t.entryMode = s.entryMode ∧
    t.cursorRow = s.cursorRow ∧ t.cursorCol = s.cursorCol ∧ t.backlightLevel = s.backlightLevel ∧ t.input = s.input

/-- 40_display_state.md R120 to R123: an entry-mode mutator leaves every other DisplayState field, however it ends. -/
def Obligations.EntryModeMutatorsFrame : Prop :=
  ∀ (i : Instr) (s t : State), i ∈ [Instr.leftToRight, .rightToLeft, .autoscrollOn, .autoscrollOff] → exec i s = .next t →
    t.initialized = s.initialized ∧ t.columns = s.columns ∧ t.lines = s.lines ∧ t.displayControl = s.displayControl ∧
    t.cursorRow = s.cursorRow ∧ t.cursorCol = s.cursorCol ∧ t.backlightLevel = s.backlightLevel ∧ t.input = s.input

/-- 40_display_state.md R111, R113, R126, 42_character_sink.md R182 to R187: the operations that move the cursor leave geometry, modes
and backlight, however they end. -/
def Obligations.CursorOperationsFrame : Prop :=
  ∀ (i : Instr) (s t : State),
    i ∈ [Instr.home, .reinitialize, .charReinit, .charHome, .charClrEol, .charCr, .charLf] ∨ (∃ col row, i = .setCursor col row) ∨
      (∃ ch, i = .write ch) ∨ (∃ ch, i = .charGlyph ch) →
    exec i s = .next t →
    t.initialized = s.initialized ∧ t.columns = s.columns ∧ t.lines = s.lines ∧ t.entryMode = s.entryMode ∧
    t.displayControl = s.displayControl ∧ t.backlightLevel = s.backlightLevel ∧ t.input = s.input

/-- 40_display_state.md R124, R125, 42_character_sink.md R190: the scrolls and `createChar` leave every DisplayState field. -/
def Obligations.ScrollsAndCreateCharFrame : Prop :=
  ∀ (i : Instr) (s t : State), i ∈ [Instr.scrollLeft, .scrollRight] ∨ (∃ slot p, i = .createChar slot p) → exec i s = .next t →
    t.initialized = s.initialized ∧ t.columns = s.columns ∧ t.lines = s.lines ∧ t.entryMode = s.entryMode ∧
    t.displayControl = s.displayControl ∧ t.cursorRow = s.cursorRow ∧ t.cursorCol = s.cursorCol ∧
    t.backlightLevel = s.backlightLevel ∧ t.input = s.input ∧ t.draws = s.draws

/-- 42_character_sink.md R192, 40_display_state.md R127: `setBacklight` leaves every DisplayState field but the level; `initialize` leaves
the level unless it ends in a bus failure, and then the level is anywhere in its domain (60_exceptions.md R213; log entry 6). -/
def Obligations.BacklightAndInitializeFrame : Prop :=
  (∀ (level : Int) (s t : State), exec (.setBacklight level) s = .next t →
    t.initialized = s.initialized ∧ t.columns = s.columns ∧ t.lines = s.lines ∧ t.entryMode = s.entryMode ∧
    t.displayControl = s.displayControl ∧ t.cursorRow = s.cursorRow ∧ t.cursorCol = s.cursorCol ∧ t.input = s.input) ∧
  (∀ (c l : Int) (s t : State), exec (.initializeBlock c l) s = .next t →
    (t.results ≠ s.results ++ [.raised .busFailure] → t.backlightLevel = s.backlightLevel) ∧
    (t.results = s.results ++ [.raised .busFailure] → -32768 ≤ t.backlightLevel ∧ t.backlightLevel ≤ 32767) ∧ t.input = s.input)

/-- 41_nibble_transport.md R158, 30_encoding.md R82: what the transport and the command rows write: the trace, `lastRS`, `busFault`, and
the count of the bus's answers; nothing else. -/
def Obligations.TransportFrame : Prop :=
  ∀ (i : Instr) (s t : State), i.format = .internal ∨ i.format = .ctrlCmd ∨ i.format = .frame → exec i s = .next t →
    t = { s with trace := t.trace, lastRS := t.lastRS, busFault := t.busFault, busAnswers := t.busAnswers, closes := t.closes }

/-! ## Invariants and whole-machine rules -/

/-- 10_state.md R22 to R26: the domains hold at construction, and so does the trace's form. -/
def Obligations.ResetIsInDomainsAndConforms : Prop :=
  State.reset.InDomains ∧ State.reset.HostOnly ∧ State.reset.TraceConforms

/-- 10_state.md R22 to R26, 93_implementation_defined.md U14: every step keeps the domains: the geometry in 1..255 by 1..4, the reserved
mode bits 0, the cursor within the geometry, the level in its domain; after a bus failure too. -/
def Obligations.StepKeepsDomains : Prop :=
  ∀ s t : State, s.InDomains → step s = .next t → t.InDomains

/-- 20_memory.md R52, R63 (a), 30_encoding.md R81, R82, R94, 41_nibble_transport.md R154, R155: every step the host can cause keeps the
trace legal: every transaction opened is closed, goes to DEV_ADDR, has the bytes of a strobe sequence with RW = 0 and a pre-write
exactly when the register select changes, carries one of the commands of R82 when RS = 0; and `lastRS` stays the level last driven. -/
def Obligations.StepKeepsTheTraceLegal : Prop :=
  ∀ s t : State, s.InDomains → s.HostOnly → s.TraceConforms → step s = .next t → t.HostOnly ∧ t.TraceConforms

/-- 10_state.md R22, R29: once initialized, no step changes the geometry or the mark. -/
def Obligations.GeometryIsImmutable : Prop :=
  ∀ s t : State, s.initialized = true → step s = .next t → t.initialized = true ∧ t.columns = s.columns ∧ t.lines = s.lines
end

