-- ==== Sys2Proof/Laws/State.lean ====
section
/-! SUPPORT. One lemma per field per update of State, true by rfl: no later proof unfolds a record update. -/

namespace Sys2Proof.Machine

variable (s : State)

@[simp] theorem State.emit_initialized (e : Event) : (s.emit e).initialized = s.initialized := rfl
@[simp] theorem State.emit_columns (e : Event) : (s.emit e).columns = s.columns := rfl
@[simp] theorem State.emit_lines (e : Event) : (s.emit e).lines = s.lines := rfl
@[simp] theorem State.emit_entryMode (e : Event) : (s.emit e).entryMode = s.entryMode := rfl
@[simp] theorem State.emit_displayControl (e : Event) : (s.emit e).displayControl = s.displayControl := rfl
@[simp] theorem State.emit_cursorRow (e : Event) : (s.emit e).cursorRow = s.cursorRow := rfl
@[simp] theorem State.emit_cursorCol (e : Event) : (s.emit e).cursorCol = s.cursorCol := rfl
@[simp] theorem State.emit_backlightLevel (e : Event) : (s.emit e).backlightLevel = s.backlightLevel := rfl
@[simp] theorem State.emit_lastRS (e : Event) : (s.emit e).lastRS = s.lastRS := rfl
@[simp] theorem State.emit_busFault (e : Event) : (s.emit e).busFault = s.busFault := rfl
@[simp] theorem State.emit_refused (e : Event) : (s.emit e).refused = s.refused := rfl
@[simp] theorem State.emit_trace (e : Event) : (s.emit e).trace = s.trace ++ [e] := rfl
@[simp] theorem State.emit_results (e : Event) : (s.emit e).results = s.results := rfl
@[simp] theorem State.emit_input (e : Event) : (s.emit e).input = s.input := rfl
@[simp] theorem State.emit_busAnswers (e : Event) : (s.emit e).busAnswers = s.busAnswers := rfl
@[simp] theorem State.emit_closes (e : Event) : (s.emit e).closes = s.closes := rfl
@[simp] theorem State.emit_draws (e : Event) : (s.emit e).draws = s.draws := rfl

@[simp] theorem State.setLastRS_initialized (v : Bool) : (s.setLastRS v).initialized = s.initialized := rfl
@[simp] theorem State.setLastRS_columns (v : Bool) : (s.setLastRS v).columns = s.columns := rfl
@[simp] theorem State.setLastRS_lines (v : Bool) : (s.setLastRS v).lines = s.lines := rfl
@[simp] theorem State.setLastRS_entryMode (v : Bool) : (s.setLastRS v).entryMode = s.entryMode := rfl
@[simp] theorem State.setLastRS_displayControl (v : Bool) : (s.setLastRS v).displayControl = s.displayControl := rfl
@[simp] theorem State.setLastRS_cursorRow (v : Bool) : (s.setLastRS v).cursorRow = s.cursorRow := rfl
@[simp] theorem State.setLastRS_cursorCol (v : Bool) : (s.setLastRS v).cursorCol = s.cursorCol := rfl
@[simp] theorem State.setLastRS_backlightLevel (v : Bool) : (s.setLastRS v).backlightLevel = s.backlightLevel := rfl
@[simp] theorem State.setLastRS_lastRS (v : Bool) : (s.setLastRS v).lastRS = v := rfl
@[simp] theorem State.setLastRS_busFault (v : Bool) : (s.setLastRS v).busFault = s.busFault := rfl
@[simp] theorem State.setLastRS_refused (v : Bool) : (s.setLastRS v).refused = s.refused := rfl
@[simp] theorem State.setLastRS_trace (v : Bool) : (s.setLastRS v).trace = s.trace := rfl
@[simp] theorem State.setLastRS_results (v : Bool) : (s.setLastRS v).results = s.results := rfl
@[simp] theorem State.setLastRS_input (v : Bool) : (s.setLastRS v).input = s.input := rfl
@[simp] theorem State.setLastRS_busAnswers (v : Bool) : (s.setLastRS v).busAnswers = s.busAnswers := rfl
@[simp] theorem State.setLastRS_closes (v : Bool) : (s.setLastRS v).closes = s.closes := rfl
@[simp] theorem State.setLastRS_draws (v : Bool) : (s.setLastRS v).draws = s.draws := rfl

@[simp] theorem State.setCursorPos_initialized (c r : Nat) : (s.setCursorPos c r).initialized = s.initialized := rfl
@[simp] theorem State.setCursorPos_columns (c r : Nat) : (s.setCursorPos c r).columns = s.columns := rfl
@[simp] theorem State.setCursorPos_lines (c r : Nat) : (s.setCursorPos c r).lines = s.lines := rfl
@[simp] theorem State.setCursorPos_entryMode (c r : Nat) : (s.setCursorPos c r).entryMode = s.entryMode := rfl
@[simp] theorem State.setCursorPos_displayControl (c r : Nat) : (s.setCursorPos c r).displayControl = s.displayControl := rfl
@[simp] theorem State.setCursorPos_cursorRow (c r : Nat) : (s.setCursorPos c r).cursorRow = r := rfl
@[simp] theorem State.setCursorPos_cursorCol (c r : Nat) : (s.setCursorPos c r).cursorCol = c := rfl
@[simp] theorem State.setCursorPos_backlightLevel (c r : Nat) : (s.setCursorPos c r).backlightLevel = s.backlightLevel := rfl
@[simp] theorem State.setCursorPos_lastRS (c r : Nat) : (s.setCursorPos c r).lastRS = s.lastRS := rfl
@[simp] theorem State.setCursorPos_busFault (c r : Nat) : (s.setCursorPos c r).busFault = s.busFault := rfl
@[simp] theorem State.setCursorPos_refused (c r : Nat) : (s.setCursorPos c r).refused = s.refused := rfl
@[simp] theorem State.setCursorPos_trace (c r : Nat) : (s.setCursorPos c r).trace = s.trace := rfl
@[simp] theorem State.setCursorPos_results (c r : Nat) : (s.setCursorPos c r).results = s.results := rfl
@[simp] theorem State.setCursorPos_input (c r : Nat) : (s.setCursorPos c r).input = s.input := rfl
@[simp] theorem State.setCursorPos_busAnswers (c r : Nat) : (s.setCursorPos c r).busAnswers = s.busAnswers := rfl
@[simp] theorem State.setCursorPos_closes (c r : Nat) : (s.setCursorPos c r).closes = s.closes := rfl
@[simp] theorem State.setCursorPos_draws (c r : Nat) : (s.setCursorPos c r).draws = s.draws := rfl

@[simp] theorem State.setEntryMode_initialized (v : Byte) : (s.setEntryMode v).initialized = s.initialized := rfl
@[simp] theorem State.setEntryMode_columns (v : Byte) : (s.setEntryMode v).columns = s.columns := rfl
@[simp] theorem State.setEntryMode_lines (v : Byte) : (s.setEntryMode v).lines = s.lines := rfl
@[simp] theorem State.setEntryMode_entryMode (v : Byte) : (s.setEntryMode v).entryMode = v := rfl
@[simp] theorem State.setEntryMode_displayControl (v : Byte) : (s.setEntryMode v).displayControl = s.displayControl := rfl
@[simp] theorem State.setEntryMode_cursorRow (v : Byte) : (s.setEntryMode v).cursorRow = s.cursorRow := rfl
@[simp] theorem State.setEntryMode_cursorCol (v : Byte) : (s.setEntryMode v).cursorCol = s.cursorCol := rfl
@[simp] theorem State.setEntryMode_backlightLevel (v : Byte) : (s.setEntryMode v).backlightLevel = s.backlightLevel := rfl
@[simp] theorem State.setEntryMode_lastRS (v : Byte) : (s.setEntryMode v).lastRS = s.lastRS := rfl
@[simp] theorem State.setEntryMode_busFault (v : Byte) : (s.setEntryMode v).busFault = s.busFault := rfl
@[simp] theorem State.setEntryMode_refused (v : Byte) : (s.setEntryMode v).refused = s.refused := rfl
@[simp] theorem State.setEntryMode_trace (v : Byte) : (s.setEntryMode v).trace = s.trace := rfl
@[simp] theorem State.setEntryMode_results (v : Byte) : (s.setEntryMode v).results = s.results := rfl
@[simp] theorem State.setEntryMode_input (v : Byte) : (s.setEntryMode v).input = s.input := rfl
@[simp] theorem State.setEntryMode_busAnswers (v : Byte) : (s.setEntryMode v).busAnswers = s.busAnswers := rfl
@[simp] theorem State.setEntryMode_closes (v : Byte) : (s.setEntryMode v).closes = s.closes := rfl
@[simp] theorem State.setEntryMode_draws (v : Byte) : (s.setEntryMode v).draws = s.draws := rfl

@[simp] theorem State.setDisplayControl_initialized (v : Byte) : (s.setDisplayControl v).initialized = s.initialized := rfl
@[simp] theorem State.setDisplayControl_columns (v : Byte) : (s.setDisplayControl v).columns = s.columns := rfl
@[simp] theorem State.setDisplayControl_lines (v : Byte) : (s.setDisplayControl v).lines = s.lines := rfl
@[simp] theorem State.setDisplayControl_entryMode (v : Byte) : (s.setDisplayControl v).entryMode = s.entryMode := rfl
@[simp] theorem State.setDisplayControl_displayControl (v : Byte) : (s.setDisplayControl v).displayControl = v := rfl
@[simp] theorem State.setDisplayControl_cursorRow (v : Byte) : (s.setDisplayControl v).cursorRow = s.cursorRow := rfl
@[simp] theorem State.setDisplayControl_cursorCol (v : Byte) : (s.setDisplayControl v).cursorCol = s.cursorCol := rfl
@[simp] theorem State.setDisplayControl_backlightLevel (v : Byte) : (s.setDisplayControl v).backlightLevel = s.backlightLevel := rfl
@[simp] theorem State.setDisplayControl_lastRS (v : Byte) : (s.setDisplayControl v).lastRS = s.lastRS := rfl
@[simp] theorem State.setDisplayControl_busFault (v : Byte) : (s.setDisplayControl v).busFault = s.busFault := rfl
@[simp] theorem State.setDisplayControl_refused (v : Byte) : (s.setDisplayControl v).refused = s.refused := rfl
@[simp] theorem State.setDisplayControl_trace (v : Byte) : (s.setDisplayControl v).trace = s.trace := rfl
@[simp] theorem State.setDisplayControl_results (v : Byte) : (s.setDisplayControl v).results = s.results := rfl
@[simp] theorem State.setDisplayControl_input (v : Byte) : (s.setDisplayControl v).input = s.input := rfl
@[simp] theorem State.setDisplayControl_busAnswers (v : Byte) : (s.setDisplayControl v).busAnswers = s.busAnswers := rfl
@[simp] theorem State.setDisplayControl_closes (v : Byte) : (s.setDisplayControl v).closes = s.closes := rfl
@[simp] theorem State.setDisplayControl_draws (v : Byte) : (s.setDisplayControl v).draws = s.draws := rfl

@[simp] theorem State.setBacklightLevel_initialized (v : Int) : (s.setBacklightLevel v).initialized = s.initialized := rfl
@[simp] theorem State.setBacklightLevel_columns (v : Int) : (s.setBacklightLevel v).columns = s.columns := rfl
@[simp] theorem State.setBacklightLevel_lines (v : Int) : (s.setBacklightLevel v).lines = s.lines := rfl
@[simp] theorem State.setBacklightLevel_entryMode (v : Int) : (s.setBacklightLevel v).entryMode = s.entryMode := rfl
@[simp] theorem State.setBacklightLevel_displayControl (v : Int) : (s.setBacklightLevel v).displayControl = s.displayControl := rfl
@[simp] theorem State.setBacklightLevel_cursorRow (v : Int) : (s.setBacklightLevel v).cursorRow = s.cursorRow := rfl
@[simp] theorem State.setBacklightLevel_cursorCol (v : Int) : (s.setBacklightLevel v).cursorCol = s.cursorCol := rfl
@[simp] theorem State.setBacklightLevel_backlightLevel (v : Int) : (s.setBacklightLevel v).backlightLevel = v := rfl
@[simp] theorem State.setBacklightLevel_lastRS (v : Int) : (s.setBacklightLevel v).lastRS = s.lastRS := rfl
@[simp] theorem State.setBacklightLevel_busFault (v : Int) : (s.setBacklightLevel v).busFault = s.busFault := rfl
@[simp] theorem State.setBacklightLevel_refused (v : Int) : (s.setBacklightLevel v).refused = s.refused := rfl
@[simp] theorem State.setBacklightLevel_trace (v : Int) : (s.setBacklightLevel v).trace = s.trace := rfl
@[simp] theorem State.setBacklightLevel_results (v : Int) : (s.setBacklightLevel v).results = s.results := rfl
@[simp] theorem State.setBacklightLevel_input (v : Int) : (s.setBacklightLevel v).input = s.input := rfl
@[simp] theorem State.setBacklightLevel_busAnswers (v : Int) : (s.setBacklightLevel v).busAnswers = s.busAnswers := rfl
@[simp] theorem State.setBacklightLevel_closes (v : Int) : (s.setBacklightLevel v).closes = s.closes := rfl
@[simp] theorem State.setBacklightLevel_draws (v : Int) : (s.setBacklightLevel v).draws = s.draws := rfl

@[simp] theorem State.setGeometry_initialized (c l : Nat) : (s.setGeometry c l).initialized = s.initialized := rfl
@[simp] theorem State.setGeometry_columns (c l : Nat) : (s.setGeometry c l).columns = c := rfl
@[simp] theorem State.setGeometry_lines (c l : Nat) : (s.setGeometry c l).lines = l := rfl
@[simp] theorem State.setGeometry_entryMode (c l : Nat) : (s.setGeometry c l).entryMode = s.entryMode := rfl
@[simp] theorem State.setGeometry_displayControl (c l : Nat) : (s.setGeometry c l).displayControl = s.displayControl := rfl
@[simp] theorem State.setGeometry_cursorRow (c l : Nat) : (s.setGeometry c l).cursorRow = s.cursorRow := rfl
@[simp] theorem State.setGeometry_cursorCol (c l : Nat) : (s.setGeometry c l).cursorCol = s.cursorCol := rfl
@[simp] theorem State.setGeometry_backlightLevel (c l : Nat) : (s.setGeometry c l).backlightLevel = s.backlightLevel := rfl
@[simp] theorem State.setGeometry_lastRS (c l : Nat) : (s.setGeometry c l).lastRS = s.lastRS := rfl
@[simp] theorem State.setGeometry_busFault (c l : Nat) : (s.setGeometry c l).busFault = s.busFault := rfl
@[simp] theorem State.setGeometry_refused (c l : Nat) : (s.setGeometry c l).refused = s.refused := rfl
@[simp] theorem State.setGeometry_trace (c l : Nat) : (s.setGeometry c l).trace = s.trace := rfl
@[simp] theorem State.setGeometry_results (c l : Nat) : (s.setGeometry c l).results = s.results := rfl
@[simp] theorem State.setGeometry_input (c l : Nat) : (s.setGeometry c l).input = s.input := rfl
@[simp] theorem State.setGeometry_busAnswers (c l : Nat) : (s.setGeometry c l).busAnswers = s.busAnswers := rfl
@[simp] theorem State.setGeometry_closes (c l : Nat) : (s.setGeometry c l).closes = s.closes := rfl
@[simp] theorem State.setGeometry_draws (c l : Nat) : (s.setGeometry c l).draws = s.draws := rfl

@[simp] theorem State.setInitialized_initialized : (s.setInitialized).initialized = true := rfl
@[simp] theorem State.setInitialized_columns : (s.setInitialized).columns = s.columns := rfl
@[simp] theorem State.setInitialized_lines : (s.setInitialized).lines = s.lines := rfl
@[simp] theorem State.setInitialized_entryMode : (s.setInitialized).entryMode = s.entryMode := rfl
@[simp] theorem State.setInitialized_displayControl : (s.setInitialized).displayControl = s.displayControl := rfl
@[simp] theorem State.setInitialized_cursorRow : (s.setInitialized).cursorRow = s.cursorRow := rfl
@[simp] theorem State.setInitialized_cursorCol : (s.setInitialized).cursorCol = s.cursorCol := rfl
@[simp] theorem State.setInitialized_backlightLevel : (s.setInitialized).backlightLevel = s.backlightLevel := rfl
@[simp] theorem State.setInitialized_lastRS : (s.setInitialized).lastRS = s.lastRS := rfl
@[simp] theorem State.setInitialized_busFault : (s.setInitialized).busFault = s.busFault := rfl
@[simp] theorem State.setInitialized_refused : (s.setInitialized).refused = s.refused := rfl
@[simp] theorem State.setInitialized_trace : (s.setInitialized).trace = s.trace := rfl
@[simp] theorem State.setInitialized_results : (s.setInitialized).results = s.results := rfl
@[simp] theorem State.setInitialized_input : (s.setInitialized).input = s.input := rfl
@[simp] theorem State.setInitialized_busAnswers : (s.setInitialized).busAnswers = s.busAnswers := rfl
@[simp] theorem State.setInitialized_closes : (s.setInitialized).closes = s.closes := rfl
@[simp] theorem State.setInitialized_draws : (s.setInitialized).draws = s.draws := rfl

@[simp] theorem State.setBusFault_initialized : (s.setBusFault).initialized = s.initialized := rfl
@[simp] theorem State.setBusFault_columns : (s.setBusFault).columns = s.columns := rfl
@[simp] theorem State.setBusFault_lines : (s.setBusFault).lines = s.lines := rfl
@[simp] theorem State.setBusFault_entryMode : (s.setBusFault).entryMode = s.entryMode := rfl
@[simp] theorem State.setBusFault_displayControl : (s.setBusFault).displayControl = s.displayControl := rfl
@[simp] theorem State.setBusFault_cursorRow : (s.setBusFault).cursorRow = s.cursorRow := rfl
@[simp] theorem State.setBusFault_cursorCol : (s.setBusFault).cursorCol = s.cursorCol := rfl
@[simp] theorem State.setBusFault_backlightLevel : (s.setBusFault).backlightLevel = s.backlightLevel := rfl
@[simp] theorem State.setBusFault_lastRS : (s.setBusFault).lastRS = s.lastRS := rfl
@[simp] theorem State.setBusFault_busFault : (s.setBusFault).busFault = true := rfl
@[simp] theorem State.setBusFault_refused : (s.setBusFault).refused = s.refused := rfl
@[simp] theorem State.setBusFault_trace : (s.setBusFault).trace = s.trace := rfl
@[simp] theorem State.setBusFault_results : (s.setBusFault).results = s.results := rfl
@[simp] theorem State.setBusFault_input : (s.setBusFault).input = s.input := rfl
@[simp] theorem State.setBusFault_busAnswers : (s.setBusFault).busAnswers = s.busAnswers := rfl
@[simp] theorem State.setBusFault_closes : (s.setBusFault).closes = s.closes := rfl
@[simp] theorem State.setBusFault_draws : (s.setBusFault).draws = s.draws := rfl

@[simp] theorem State.setRefused_initialized : (s.setRefused).initialized = s.initialized := rfl
@[simp] theorem State.setRefused_columns : (s.setRefused).columns = s.columns := rfl
@[simp] theorem State.setRefused_lines : (s.setRefused).lines = s.lines := rfl
@[simp] theorem State.setRefused_entryMode : (s.setRefused).entryMode = s.entryMode := rfl
@[simp] theorem State.setRefused_displayControl : (s.setRefused).displayControl = s.displayControl := rfl
@[simp] theorem State.setRefused_cursorRow : (s.setRefused).cursorRow = s.cursorRow := rfl
@[simp] theorem State.setRefused_cursorCol : (s.setRefused).cursorCol = s.cursorCol := rfl
@[simp] theorem State.setRefused_backlightLevel : (s.setRefused).backlightLevel = s.backlightLevel := rfl
@[simp] theorem State.setRefused_lastRS : (s.setRefused).lastRS = s.lastRS := rfl
@[simp] theorem State.setRefused_busFault : (s.setRefused).busFault = s.busFault := rfl
@[simp] theorem State.setRefused_refused : (s.setRefused).refused = true := rfl
@[simp] theorem State.setRefused_trace : (s.setRefused).trace = s.trace := rfl
@[simp] theorem State.setRefused_results : (s.setRefused).results = s.results := rfl
@[simp] theorem State.setRefused_input : (s.setRefused).input = s.input := rfl
@[simp] theorem State.setRefused_busAnswers : (s.setRefused).busAnswers = s.busAnswers := rfl
@[simp] theorem State.setRefused_closes : (s.setRefused).closes = s.closes := rfl
@[simp] theorem State.setRefused_draws : (s.setRefused).draws = s.draws := rfl

@[simp] theorem State.pushOutcome_initialized (o : OpOutcome) : (s.pushOutcome o).initialized = s.initialized := rfl
@[simp] theorem State.pushOutcome_columns (o : OpOutcome) : (s.pushOutcome o).columns = s.columns := rfl
@[simp] theorem State.pushOutcome_lines (o : OpOutcome) : (s.pushOutcome o).lines = s.lines := rfl
@[simp] theorem State.pushOutcome_entryMode (o : OpOutcome) : (s.pushOutcome o).entryMode = s.entryMode := rfl
@[simp] theorem State.pushOutcome_displayControl (o : OpOutcome) : (s.pushOutcome o).displayControl = s.displayControl := rfl
@[simp] theorem State.pushOutcome_cursorRow (o : OpOutcome) : (s.pushOutcome o).cursorRow = s.cursorRow := rfl
@[simp] theorem State.pushOutcome_cursorCol (o : OpOutcome) : (s.pushOutcome o).cursorCol = s.cursorCol := rfl
@[simp] theorem State.pushOutcome_backlightLevel (o : OpOutcome) : (s.pushOutcome o).backlightLevel = s.backlightLevel := rfl
@[simp] theorem State.pushOutcome_lastRS (o : OpOutcome) : (s.pushOutcome o).lastRS = s.lastRS := rfl
@[simp] theorem State.pushOutcome_busFault (o : OpOutcome) : (s.pushOutcome o).busFault = s.busFault := rfl
@[simp] theorem State.pushOutcome_refused (o : OpOutcome) : (s.pushOutcome o).refused = s.refused := rfl
@[simp] theorem State.pushOutcome_trace (o : OpOutcome) : (s.pushOutcome o).trace = s.trace := rfl
@[simp] theorem State.pushOutcome_results (o : OpOutcome) : (s.pushOutcome o).results = s.results ++ [o] := rfl
@[simp] theorem State.pushOutcome_input (o : OpOutcome) : (s.pushOutcome o).input = s.input := rfl
@[simp] theorem State.pushOutcome_busAnswers (o : OpOutcome) : (s.pushOutcome o).busAnswers = s.busAnswers := rfl
@[simp] theorem State.pushOutcome_closes (o : OpOutcome) : (s.pushOutcome o).closes = s.closes := rfl
@[simp] theorem State.pushOutcome_draws (o : OpOutcome) : (s.pushOutcome o).draws = s.draws := rfl

@[simp] theorem State.setInput_initialized (i : List HostInput) : (s.setInput i).initialized = s.initialized := rfl
@[simp] theorem State.setInput_columns (i : List HostInput) : (s.setInput i).columns = s.columns := rfl
@[simp] theorem State.setInput_lines (i : List HostInput) : (s.setInput i).lines = s.lines := rfl
@[simp] theorem State.setInput_entryMode (i : List HostInput) : (s.setInput i).entryMode = s.entryMode := rfl
@[simp] theorem State.setInput_displayControl (i : List HostInput) : (s.setInput i).displayControl = s.displayControl := rfl
@[simp] theorem State.setInput_cursorRow (i : List HostInput) : (s.setInput i).cursorRow = s.cursorRow := rfl
@[simp] theorem State.setInput_cursorCol (i : List HostInput) : (s.setInput i).cursorCol = s.cursorCol := rfl
@[simp] theorem State.setInput_backlightLevel (i : List HostInput) : (s.setInput i).backlightLevel = s.backlightLevel := rfl
@[simp] theorem State.setInput_lastRS (i : List HostInput) : (s.setInput i).lastRS = s.lastRS := rfl
@[simp] theorem State.setInput_busFault (i : List HostInput) : (s.setInput i).busFault = s.busFault := rfl
@[simp] theorem State.setInput_refused (i : List HostInput) : (s.setInput i).refused = s.refused := rfl
@[simp] theorem State.setInput_trace (i : List HostInput) : (s.setInput i).trace = s.trace := rfl
@[simp] theorem State.setInput_results (i : List HostInput) : (s.setInput i).results = s.results := rfl
@[simp] theorem State.setInput_input (i : List HostInput) : (s.setInput i).input = i := rfl
@[simp] theorem State.setInput_busAnswers (i : List HostInput) : (s.setInput i).busAnswers = s.busAnswers := rfl
@[simp] theorem State.setInput_closes (i : List HostInput) : (s.setInput i).closes = s.closes := rfl
@[simp] theorem State.setInput_draws (i : List HostInput) : (s.setInput i).draws = s.draws := rfl

@[simp] theorem State.takeAnswer_initialized : (s.takeAnswer).initialized = s.initialized := rfl
@[simp] theorem State.takeAnswer_columns : (s.takeAnswer).columns = s.columns := rfl
@[simp] theorem State.takeAnswer_lines : (s.takeAnswer).lines = s.lines := rfl
@[simp] theorem State.takeAnswer_entryMode : (s.takeAnswer).entryMode = s.entryMode := rfl
@[simp] theorem State.takeAnswer_displayControl : (s.takeAnswer).displayControl = s.displayControl := rfl
@[simp] theorem State.takeAnswer_cursorRow : (s.takeAnswer).cursorRow = s.cursorRow := rfl
@[simp] theorem State.takeAnswer_cursorCol : (s.takeAnswer).cursorCol = s.cursorCol := rfl
@[simp] theorem State.takeAnswer_backlightLevel : (s.takeAnswer).backlightLevel = s.backlightLevel := rfl
@[simp] theorem State.takeAnswer_lastRS : (s.takeAnswer).lastRS = s.lastRS := rfl
@[simp] theorem State.takeAnswer_busFault : (s.takeAnswer).busFault = s.busFault := rfl
@[simp] theorem State.takeAnswer_refused : (s.takeAnswer).refused = s.refused := rfl
@[simp] theorem State.takeAnswer_trace : (s.takeAnswer).trace = s.trace := rfl
@[simp] theorem State.takeAnswer_results : (s.takeAnswer).results = s.results := rfl
@[simp] theorem State.takeAnswer_input : (s.takeAnswer).input = s.input := rfl
@[simp] theorem State.takeAnswer_busAnswers : (s.takeAnswer).busAnswers = s.busAnswers.tail := rfl
@[simp] theorem State.takeAnswer_closes : (s.takeAnswer).closes = s.closes + 1 := rfl
@[simp] theorem State.takeAnswer_draws : (s.takeAnswer).draws = s.draws := rfl

@[simp] theorem State.countDraws_initialized (n : Nat) : (s.countDraws n).initialized = s.initialized := rfl
@[simp] theorem State.countDraws_columns (n : Nat) : (s.countDraws n).columns = s.columns := rfl
@[simp] theorem State.countDraws_lines (n : Nat) : (s.countDraws n).lines = s.lines := rfl
@[simp] theorem State.countDraws_entryMode (n : Nat) : (s.countDraws n).entryMode = s.entryMode := rfl
@[simp] theorem State.countDraws_displayControl (n : Nat) : (s.countDraws n).displayControl = s.displayControl := rfl
@[simp] theorem State.countDraws_cursorRow (n : Nat) : (s.countDraws n).cursorRow = s.cursorRow := rfl
@[simp] theorem State.countDraws_cursorCol (n : Nat) : (s.countDraws n).cursorCol = s.cursorCol := rfl
@[simp] theorem State.countDraws_backlightLevel (n : Nat) : (s.countDraws n).backlightLevel = s.backlightLevel := rfl
@[simp] theorem State.countDraws_lastRS (n : Nat) : (s.countDraws n).lastRS = s.lastRS := rfl
@[simp] theorem State.countDraws_busFault (n : Nat) : (s.countDraws n).busFault = s.busFault := rfl
@[simp] theorem State.countDraws_refused (n : Nat) : (s.countDraws n).refused = s.refused := rfl
@[simp] theorem State.countDraws_trace (n : Nat) : (s.countDraws n).trace = s.trace := rfl
@[simp] theorem State.countDraws_results (n : Nat) : (s.countDraws n).results = s.results := rfl
@[simp] theorem State.countDraws_input (n : Nat) : (s.countDraws n).input = s.input := rfl
@[simp] theorem State.countDraws_busAnswers (n : Nat) : (s.countDraws n).busAnswers = s.busAnswers := rfl
@[simp] theorem State.countDraws_closes (n : Nat) : (s.countDraws n).closes = s.closes := rfl
@[simp] theorem State.countDraws_draws (n : Nat) : (s.countDraws n).draws = s.draws + n := rfl

@[simp] theorem State.after_initialized (evs : List Event) (n : Nat) (rs : Bool) : (s.after evs n rs).initialized = s.initialized := rfl
@[simp] theorem State.after_columns (evs : List Event) (n : Nat) (rs : Bool) : (s.after evs n rs).columns = s.columns := rfl
@[simp] theorem State.after_lines (evs : List Event) (n : Nat) (rs : Bool) : (s.after evs n rs).lines = s.lines := rfl
@[simp] theorem State.after_entryMode (evs : List Event) (n : Nat) (rs : Bool) : (s.after evs n rs).entryMode = s.entryMode := rfl
@[simp] theorem State.after_displayControl (evs : List Event) (n : Nat) (rs : Bool) : (s.after evs n rs).displayControl = s.displayControl := rfl
@[simp] theorem State.after_cursorRow (evs : List Event) (n : Nat) (rs : Bool) : (s.after evs n rs).cursorRow = s.cursorRow := rfl
@[simp] theorem State.after_cursorCol (evs : List Event) (n : Nat) (rs : Bool) : (s.after evs n rs).cursorCol = s.cursorCol := rfl
@[simp] theorem State.after_backlightLevel (evs : List Event) (n : Nat) (rs : Bool) : (s.after evs n rs).backlightLevel = s.backlightLevel := rfl
@[simp] theorem State.after_lastRS (evs : List Event) (n : Nat) (rs : Bool) : (s.after evs n rs).lastRS = rs := rfl
@[simp] theorem State.after_busFault (evs : List Event) (n : Nat) (rs : Bool) : (s.after evs n rs).busFault = s.busFault := rfl
@[simp] theorem State.after_refused (evs : List Event) (n : Nat) (rs : Bool) : (s.after evs n rs).refused = s.refused := rfl
@[simp] theorem State.after_trace (evs : List Event) (n : Nat) (rs : Bool) : (s.after evs n rs).trace = s.trace ++ evs := rfl
@[simp] theorem State.after_results (evs : List Event) (n : Nat) (rs : Bool) : (s.after evs n rs).results = s.results := rfl
@[simp] theorem State.after_input (evs : List Event) (n : Nat) (rs : Bool) : (s.after evs n rs).input = s.input := rfl
@[simp] theorem State.after_busAnswers (evs : List Event) (n : Nat) (rs : Bool) : (s.after evs n rs).busAnswers = s.busAnswers.drop n := rfl
@[simp] theorem State.after_closes (evs : List Event) (n : Nat) (rs : Bool) : (s.after evs n rs).closes = s.closes + n := rfl
@[simp] theorem State.after_draws (evs : List Event) (n : Nat) (rs : Bool) : (s.after evs n rs).draws = s.draws := rfl

@[simp] theorem State.commanded_initialized (b : Byte) : (s.commanded b).initialized = s.initialized := rfl
@[simp] theorem State.commanded_columns (b : Byte) : (s.commanded b).columns = s.columns := rfl
@[simp] theorem State.commanded_lines (b : Byte) : (s.commanded b).lines = s.lines := rfl
@[simp] theorem State.commanded_entryMode (b : Byte) : (s.commanded b).entryMode = s.entryMode := rfl
@[simp] theorem State.commanded_displayControl (b : Byte) : (s.commanded b).displayControl = s.displayControl := rfl
@[simp] theorem State.commanded_cursorRow (b : Byte) : (s.commanded b).cursorRow = s.cursorRow := rfl
@[simp] theorem State.commanded_cursorCol (b : Byte) : (s.commanded b).cursorCol = s.cursorCol := rfl
@[simp] theorem State.commanded_backlightLevel (b : Byte) : (s.commanded b).backlightLevel = s.backlightLevel := rfl
@[simp] theorem State.commanded_lastRS (b : Byte) : (s.commanded b).lastRS = false := rfl
@[simp] theorem State.commanded_busFault (b : Byte) : (s.commanded b).busFault = s.busFault := rfl
@[simp] theorem State.commanded_refused (b : Byte) : (s.commanded b).refused = s.refused := rfl
@[simp] theorem State.commanded_trace (b : Byte) : (s.commanded b).trace = s.trace ++ sendEvents s.bl s.lastRS b false := rfl
@[simp] theorem State.commanded_results (b : Byte) : (s.commanded b).results = s.results := rfl
@[simp] theorem State.commanded_input (b : Byte) : (s.commanded b).input = s.input := rfl
@[simp] theorem State.commanded_busAnswers (b : Byte) : (s.commanded b).busAnswers = s.busAnswers.drop 1 := rfl
@[simp] theorem State.commanded_closes (b : Byte) : (s.commanded b).closes = s.closes + 1 := rfl
@[simp] theorem State.commanded_draws (b : Byte) : (s.commanded b).draws = s.draws := rfl

@[simp] theorem State.completed_initialized (v : Option Nat) : (s.completed v).initialized = s.initialized := rfl
@[simp] theorem State.completed_columns (v : Option Nat) : (s.completed v).columns = s.columns := rfl
@[simp] theorem State.completed_lines (v : Option Nat) : (s.completed v).lines = s.lines := rfl
@[simp] theorem State.completed_entryMode (v : Option Nat) : (s.completed v).entryMode = s.entryMode := rfl
@[simp] theorem State.completed_displayControl (v : Option Nat) : (s.completed v).displayControl = s.displayControl := rfl
@[simp] theorem State.completed_cursorRow (v : Option Nat) : (s.completed v).cursorRow = s.cursorRow := rfl
@[simp] theorem State.completed_cursorCol (v : Option Nat) : (s.completed v).cursorCol = s.cursorCol := rfl
@[simp] theorem State.completed_backlightLevel (v : Option Nat) : (s.completed v).backlightLevel = s.backlightLevel := rfl
@[simp] theorem State.completed_lastRS (v : Option Nat) : (s.completed v).lastRS = s.lastRS := rfl
@[simp] theorem State.completed_busFault (v : Option Nat) : (s.completed v).busFault = s.busFault := rfl
@[simp] theorem State.completed_refused (v : Option Nat) : (s.completed v).refused = s.refused := rfl
@[simp] theorem State.completed_trace (v : Option Nat) : (s.completed v).trace = s.trace := rfl
@[simp] theorem State.completed_results (v : Option Nat) : (s.completed v).results = s.results ++ [.returned v] := rfl
@[simp] theorem State.completed_input (v : Option Nat) : (s.completed v).input = s.input := rfl
@[simp] theorem State.completed_busAnswers (v : Option Nat) : (s.completed v).busAnswers = s.busAnswers := rfl
@[simp] theorem State.completed_closes (v : Option Nat) : (s.completed v).closes = s.closes := rfl
@[simp] theorem State.completed_draws (v : Option Nat) : (s.completed v).draws = s.draws := rfl

@[simp] theorem State.turnedAway_initialized (r : Refusal) : (s.turnedAway r).initialized = s.initialized := rfl
@[simp] theorem State.turnedAway_columns (r : Refusal) : (s.turnedAway r).columns = s.columns := rfl
@[simp] theorem State.turnedAway_lines (r : Refusal) : (s.turnedAway r).lines = s.lines := rfl
@[simp] theorem State.turnedAway_entryMode (r : Refusal) : (s.turnedAway r).entryMode = s.entryMode := rfl
@[simp] theorem State.turnedAway_displayControl (r : Refusal) : (s.turnedAway r).displayControl = s.displayControl := rfl
@[simp] theorem State.turnedAway_cursorRow (r : Refusal) : (s.turnedAway r).cursorRow = s.cursorRow := rfl
@[simp] theorem State.turnedAway_cursorCol (r : Refusal) : (s.turnedAway r).cursorCol = s.cursorCol := rfl
@[simp] theorem State.turnedAway_backlightLevel (r : Refusal) : (s.turnedAway r).backlightLevel = s.backlightLevel := rfl
@[simp] theorem State.turnedAway_lastRS (r : Refusal) : (s.turnedAway r).lastRS = s.lastRS := rfl
@[simp] theorem State.turnedAway_busFault (r : Refusal) : (s.turnedAway r).busFault = s.busFault := rfl
@[simp] theorem State.turnedAway_refused (r : Refusal) : (s.turnedAway r).refused = true := rfl
@[simp] theorem State.turnedAway_trace (r : Refusal) : (s.turnedAway r).trace = s.trace := rfl
@[simp] theorem State.turnedAway_results (r : Refusal) : (s.turnedAway r).results = s.results ++ [.refused r] := rfl
@[simp] theorem State.turnedAway_input (r : Refusal) : (s.turnedAway r).input = s.input := rfl
@[simp] theorem State.turnedAway_busAnswers (r : Refusal) : (s.turnedAway r).busAnswers = s.busAnswers := rfl
@[simp] theorem State.turnedAway_closes (r : Refusal) : (s.turnedAway r).closes = s.closes := rfl
@[simp] theorem State.turnedAway_draws (r : Refusal) : (s.turnedAway r).draws = s.draws := rfl

end Sys2Proof.Machine
end

