-- ==== Sys2Proof/Laws/Ops.lean ====
section
/-! SUPPORT. One lemma per shared operation that says all it can do: the bus, the transport, running an operation. Callers cite these
and do not unfold the operations. -/

namespace Sys2Proof.Machine

/-! ## Running pieces -/

@[simp] theorem Run.andThen_done (s : State) (f : State → Run) : (Run.done s).andThen f = f s := rfl

@[simp] theorem Run.andThen_failed (s : State) (f : State → Run) : (Run.failed s).andThen f = .failed s := rfl

@[simp] theorem Run.thenUpdate_done (s : State) (f : State → State) : (Run.done s).thenUpdate f = .done (f s) := rfl

@[simp] theorem Run.thenUpdate_failed (s : State) (f : State → State) : (Run.failed s).thenUpdate f = .failed s := rfl

/-- What holds however a piece ends. -/
def Run.All (p : State → Prop) : Run → Prop
  | .done s => p s
  | .failed s => p s

/-- A property kept by both pieces is kept by their sequence. -/
theorem Run.All.andThen {p : State → Prop} {r : Run} {f : State → Run} (hr : r.All p) (hf : ∀ s, p s → (f s).All p) :
    (r.andThen f).All p := by
  cases r with
  | done s => exact hf s hr
  | failed s => exact hr

/-! ## The bus's answers -/

theorem State.answerAt_of_drop {s t : State} {n : Nat} (ha : t.busAnswers = s.busAnswers.drop n) (hc : t.closes = s.closes + n)
    (k : Nat) : t.answerAt k = s.answerAt (n + k) := by
  simp only [State.answerAt, ha, hc, List.getElem?_drop, Nat.add_assoc]

/-- After `n` closes the answers are those `n` further on. -/
@[simp] theorem State.answerAt_after (s : State) (evs : List Event) (n : Nat) (rs : Bool) (k : Nat) :
    (s.after evs n rs).answerAt k = s.answerAt (n + k) :=
  State.answerAt_of_drop rfl rfl k

/-- Updates that leave the bus script alone leave its answers alone. -/
theorem State.answerAt_congr {s t : State} (ha : t.busAnswers = s.busAnswers) (hc : t.closes = s.closes) (k : Nat) :
    t.answerAt k = s.answerAt k := by
  simp only [State.answerAt, ha, hc]

/-! ## The transport -/

theorem strobeHigh_eq (f : Byte) : strobeHigh f = f ||| 0x04#8 := rfl

/-- `backlightOn` of the level is the backlight bit of Safety's laws. -/
theorem State.bl_eq (s : State) : backlightOn s.backlightLevel = s.bl := rfl

/-- `writeNibble` appends two or three bytes and leaves `lastRS` at its register select (41_nibble_transport.md R151). -/
theorem writeNibble_eq (n : Nibble) (d : Bool) (s : State) :
    writeNibble n d s =
      { s with
        trace := s.trace ++ (if d = s.lastRS then [.txByte (frameByte s.bl n d ||| 0x04#8), .txByte (frameByte s.bl n d)]
          else [.txByte (frameByte s.bl n d), .txByte (frameByte s.bl n d ||| 0x04#8), .txByte (frameByte s.bl n d)])
        lastRS := d } := by
  by_cases h : d = s.lastRS
  · simp [writeNibble, h, State.frame, State.bl_eq, strobeHigh_eq, txByte, State.emit]
  · simp [writeNibble, h, State.frame, State.bl_eq, strobeHigh_eq, txByte, State.emit, State.setLastRS]

/-- `txEnd` appends the bus's answer and ends the piece accordingly (60_exceptions.md R212). The answer is that of any earlier
state of the same transaction. -/
theorem txEnd_eq {s t : State} (ha : t.busAnswers = s.busAnswers) (hc : t.closes = s.closes) :
    txEnd t =
      (if s.answerAt 0 then
        Run.done { t with trace := t.trace ++ [.txEnd true], busAnswers := s.busAnswers.drop 1, closes := s.closes + 1 }
      else
        Run.failed { t with trace := t.trace ++ [.txEnd false], busAnswers := s.busAnswers.drop 1, closes := s.closes + 1 }) := by
  have h0 := State.answerAt_congr ha hc 0
  cases h : s.answerAt 0 <;> rw [h] at h0 <;> simp [txEnd, h0, State.emit, State.takeAnswer, ha, hc]

/-- All a `send` can do (R152, R157): one transaction whose bytes the law gives, closed by the bus's answer. -/
theorem send_eq (v : Byte) (d : Bool) (s : State) :
    send v d s =
      (if s.answerAt 0 then Run.done (s.after (sendEvents s.bl s.lastRS v d) 1 d)
      else Run.failed (s.after (txEvents (sendBytes s.bl s.lastRS v d) false) 1 d)) := by
  unfold send
  rw [writeNibble_eq, writeNibble_eq, txEnd_eq (s := s) (by rfl) (by rfl)]
  by_cases h : d = s.lastRS <;>
    simp [h, txBegin, State.emit, State.bl, State.after, sendEvents, txEvents, sendBytes]

/-- All a `sendNibble` can do (R153, R157). -/
theorem sendNibble_eq (n : Nibble) (s : State) :
    sendNibble n s =
      (if s.answerAt 0 then Run.done (s.after (nibbleEvents s.bl s.lastRS n) 1 false)
      else Run.failed (s.after (txEvents (nibbleBytes s.bl s.lastRS n) false) 1 false)) := by
  unfold sendNibble
  rw [writeNibble_eq, txEnd_eq (s := s) (by rfl) (by rfl)]
  cases h : s.lastRS <;>
    simp [h, txBegin, State.emit, State.bl, State.after, nibbleEvents, txEvents, nibbleBytes]

/-- A command whose close succeeds. -/
theorem command_done {s : State} (h : s.answerAt 0 = true) (b : Byte) : command b s = .done (s.commanded b) := by
  simp [command, send_eq, h, State.commanded]

/-- A data byte whose close succeeds. -/
theorem send_done {s : State} (h : s.answerAt 0 = true) (v : Byte) (d : Bool) :
    send v d s = .done (s.after (sendEvents s.bl s.lastRS v d) 1 d) := by
  simp [send_eq, h]

/-- A transaction whose close fails (60_exceptions.md R212). -/
theorem send_failed {s : State} (h : s.answerAt 0 = false) (v : Byte) (d : Bool) :
    send v d s = .failed (s.after (txEvents (sendBytes s.bl s.lastRS v d) false) 1 d) := by
  simp [send_eq, h]

/-- A command whose close fails. -/
theorem command_failed {s : State} (h : s.answerAt 0 = false) (b : Byte) :
    command b s = .failed (s.after (txEvents (sendBytes s.bl s.lastRS b false) false) 1 false) :=
  send_failed h b false

/-- A lone nibble whose close succeeds. -/
theorem sendNibble_done {s : State} (h : s.answerAt 0 = true) (n : Nibble) :
    sendNibble n s = .done (s.after (nibbleEvents s.bl s.lastRS n) 1 false) := by
  simp [sendNibble_eq, h]

/-- A lone nibble whose close fails. -/
theorem sendNibble_failed {s : State} (h : s.answerAt 0 = false) (n : Nibble) :
    sendNibble n s = .failed (s.after (txEvents (nibbleBytes s.bl s.lastRS n) false) 1 false) := by
  simp [sendNibble_eq, h]

/-! ## Sequences of transactions -/

/-- Two groups of events in a row are one. -/
theorem State.after_after (s : State) (e1 e2 : List Event) (n1 n2 : Nat) (r1 r2 : Bool) :
    (s.after e1 n1 r1).after e2 n2 r2 = s.after (e1 ++ e2) (n1 + n2) r2 := by
  simp [State.after, List.append_assoc, Nat.add_comm]; omega

@[simp] theorem State.after_bl (s : State) (e1 : List Event) (n1 : Nat) (r1 : Bool) : (s.after e1 n1 r1).bl = s.bl := rfl

/-- A wait after a group of events joins it. -/
theorem wait_after (s : State) (e1 : List Event) (n1 : Nat) (r1 : Bool) (us : Nat) :
    wait us (s.after e1 n1 r1) = s.after (e1 ++ [.wait us]) n1 r1 := by
  simp [wait, State.emit, State.after]

theorem txEvents_true_noFailure (bs : List Byte) : (txEvents bs true).any isFailedClose = false := by
  simp [txEvents, isFailedClose]

theorem txEvents_noWait (bs : List Byte) (ok : Bool) : (txEvents bs ok).filter isWait = [] := by
  simp [txEvents, isWait]

/-- A transaction with a failed close: its open, its bytes, then the close. -/
theorem txEvents_false (bs : List Byte) :
    txEvents bs false = (.txBegin Config.devAddr :: bs.map Event.txByte) ++ [.txEnd false] := by
  simp [txEvents]

/-! ## Running an operation -/

/-- All a host operation can do: be turned away, complete, or take a bus failure. -/
theorem hostOp_cases (check : State → Option Refusal) (draw : State → State) (ret : Option Nat) (body : State → Run) (s : State) :
    (∃ r, check s = some r ∧ hostOp check draw ret body s = s.turnedAway r) ∨
    (check s = none ∧ ∃ t, body s = .done t ∧ hostOp check draw ret body s = t.completed ret) ∨
    (check s = none ∧ ∃ t, body s = .failed t ∧ hostOp check draw ret body s = busFailure draw t) := by
  unfold hostOp
  cases hc : check s with
  | some r => exact .inl ⟨r, rfl, rfl⟩
  | none =>
    cases hb : body s with
    | done t => exact .inr (.inl ⟨rfl, t, rfl, rfl⟩)
    | failed t => exact .inr (.inr ⟨rfl, t, rfl, rfl⟩)

/-- A checked operation whose body goes through completes. -/
theorem hostOp_completes {check : State → Option Refusal} {draw : State → State} {ret : Option Nat} {body : State → Run}
    {s t : State} (hc : check s = none) (hb : body s = .done t) : hostOp check draw ret body s = t.completed ret := by
  simp [hostOp, hc, hb, State.completed, State.pushOutcome]

/-- A refused operation. -/
theorem hostOp_refused {check : State → Option Refusal} {r : Refusal} {s : State} (draw : State → State) (ret : Option Nat)
    (body : State → Run) (hc : check s = some r) : hostOp check draw ret body s = s.turnedAway r := by
  simp [hostOp, hc, refuse, State.turnedAway, State.setRefused, State.pushOutcome]

/-- A checked operation with a failed close takes the bus failure. -/
theorem hostOp_faults {check : State → Option Refusal} {draw : State → State} {ret : Option Nat} {body : State → Run}
    {s t : State} (hc : check s = none) (hb : body s = .failed t) : hostOp check draw ret body s = busFailure draw t := by
  simp [hostOp, hc, hb]

/-- All an internal operation can do. -/
theorem internalOp_cases (body : State → Run) (s : State) :
    (∃ t, body s = .done t ∧ internalOp body s = t) ∨ (∃ t, body s = .failed t ∧ internalOp body s = t.setBusFault) := by
  unfold internalOp
  cases body s with
  | done t => exact .inl ⟨t, rfl, rfl⟩
  | failed t => exact .inr ⟨t, rfl, rfl⟩

@[simp] theorem checkInitialized_of_initialized {s : State} (h : s.initialized = true) : checkInitialized s = none := by
  simp [checkInitialized, h]

@[simp] theorem checkInitialized_of_not {s : State} (h : s.initialized = false) : checkInitialized s = some .notInitialized := by
  simp [checkInitialized, h]

theorem checkArguments_of_initialized {s : State} (h : s.initialized = true) (ok : Bool) :
    checkArguments ok s = if ok then none else some .argumentOutOfDomain := by
  simp [checkArguments, h]

theorem checkArguments_of_not {s : State} (h : s.initialized = false) (ok : Bool) :
    checkArguments ok s = some .notInitialized := by
  simp [checkArguments, h]

/-! ## Draws (60_exceptions.md R213) -/

/-- A drawn level lies in its domain. -/
theorem drawBacklight_inDomain (s : State) :
    -32768 ≤ (drawBacklight s).backlightLevel ∧ (drawBacklight s).backlightLevel ≤ 32767 := by
  have := Nat.mod_lt (Config.freeNat s.draws) (show 0 < 65536 by omega)
  simp only [drawBacklight, State.countDraws_backlightLevel, State.setBacklightLevel_backlightLevel, Config.levelMin]
  omega

/-- The level after a draw of every field is a drawn level. -/
theorem drawInitialize_backlightLevel (s : State) : (drawInitialize s).backlightLevel = (drawBacklight s).backlightLevel := rfl

/-- A drawn cursor lies within the geometry held. -/
theorem drawCursor_inGeometry {s : State} (hc : 0 < s.columns) (hl : 0 < s.lines) :
    (drawCursor s).cursorCol < s.columns ∧ (drawCursor s).cursorRow < s.lines :=
  ⟨Nat.mod_lt _ hc, Nat.mod_lt _ hl⟩

/-! ## Cursor moves -/

/-- All a `setCursor` can do (40_display_state.md R111): nothing at the stored position, else one command from the wrapped position. -/
theorem setCursor_eq (col row : Nat) (s : State) :
    setCursor col row s =
      (if col = s.cursorCol ∧ row = s.cursorRow then Run.done s
      else command (ddramCmd (col % s.columns) (row % s.lines)) (s.setCursorPos (col % s.columns) (row % s.lines))) := rfl

/-- A `setCursor` to the stored position does nothing. -/
theorem setCursor_same {s : State} {c r : Nat} (h : c = s.cursorCol ∧ r = s.cursorRow) : setCursor c r s = .done s := by
  rw [setCursor_eq, if_pos h]

@[simp] theorem State.answerAt_setCursorPos (s : State) (c r k : Nat) : (s.setCursorPos c r).answerAt k = s.answerAt k := rfl

/-- A `setCursor` to another position whose close succeeds. -/
theorem setCursor_done {s : State} {c r : Nat} (h : ¬(c = s.cursorCol ∧ r = s.cursorRow)) (ha : s.answerAt 0 = true) :
    setCursor c r s = .done ((s.setCursorPos (c % s.columns) (r % s.lines)).commanded (ddramCmd (c % s.columns) (r % s.lines))) := by
  rw [setCursor_eq, if_neg h]
  exact command_done (by simpa using ha) _

/-- A `setCursor` to another position whose close fails. -/
theorem setCursor_failed {s : State} {c r : Nat} (h : ¬(c = s.cursorCol ∧ r = s.cursorRow)) (ha : s.answerAt 0 = false) :
    setCursor c r s = .failed ((s.setCursorPos (c % s.columns) (r % s.lines)).after
      (txEvents (sendBytes s.bl s.lastRS (ddramCmd (c % s.columns) (r % s.lines)) false) false) 1 false) := by
  rw [setCursor_eq, if_neg h]
  rw [command_failed (by simpa using ha)]; rfl

/-- A glyph short of the last column (42_character_sink.md R187). -/
theorem glyph_advances {s : State} {ch : Byte} (h : s.cursorCol + 1 ≠ s.columns) (ha : s.answerAt 0 = true) :
    glyph ch s = .done ((s.after (sendEvents s.bl s.lastRS ch true) 1 true).setCursorPos (s.cursorCol + 1) s.cursorRow) := by
  unfold glyph
  rw [send_done ha, Run.andThen_done]
  exact if_neg h

/-- A glyph in the last column moves to column 0 of the next row through `setCursor` (R187, R188). -/
theorem glyph_wraps {s : State} {ch : Byte} (h : s.cursorCol + 1 = s.columns) (ha : s.answerAt 0 = true) :
    glyph ch s = setCursor 0 (s.cursorRow + 1) (s.after (sendEvents s.bl s.lastRS ch true) 1 true) := by
  unfold glyph
  rw [send_done ha, Run.andThen_done]
  exact if_pos h

end Sys2Proof.Machine
end

