-- ==== Sys2Proof/Laws/Frames.lean ====
section
/-! SUPPORT. What one step can do, and closing a relation over the operations once: a preorder on states that one transaction keeps,
and where needed a cursor move and a wait, is kept by every body, however its closes end. Frames, invariants and append-only claims are
its cases. -/

namespace Sys2Proof.Machine

/-- All a step can do: nothing when idle, else the instruction of the next input on the state with that input consumed. -/
theorem step_cases {s t : State} (h : step s = .next t) :
    (s.input = [] ∧ t = s) ∨
    ∃ i rest, (s.input = .call i :: rest ∨ ∃ b, s.input = .byte b :: rest ∧ i = decodeChar b) ∧
      exec i (s.setInput rest) = .next t := by
  unfold step nextInput at h
  split at h
  · rename_i hn
    split at hn
    · rename_i he; cases h; exact .inl ⟨he, rfl⟩
    · cases hn
    · cases hn
  · rename_i i u hn
    right
    split at hn <;> cases hn
    · rename_i he; exact ⟨_, _, .inl he, h⟩
    · rename_i he; exact ⟨_, _, .inr ⟨_, he, rfl⟩, h⟩

/-- A preorder on states that holds across any one transaction. -/
structure BusRel (R : State → State → Prop) : Prop where
  refl : ∀ s, R s s
  trans : ∀ {s t u}, R s t → R t u → R s u
  tx : ∀ s bs ok n rs, R s (s.after (txEvents bs ok) n rs)

namespace BusRel

variable {R : State → State → Prop}

theorem bind (h : BusRel R) {s : State} {r : Run} {f : State → Run} (hr : r.All (R s)) (hf : ∀ t, (f t).All (R t)) :
    (r.andThen f).All (R s) := by
  cases r with
  | done t =>
    have ht := hf t
    rw [Run.andThen_done]
    cases hft : f t <;> rw [hft] at ht <;> exact h.trans hr ht
  | failed t => exact hr

theorem before (h : BusRel R) {s t : State} {r : Run} (hst : R s t) (hr : r.All (R t)) : r.All (R s) := by
  cases r <;> exact h.trans hst hr

theorem send (h : BusRel R) (v : Byte) (d : Bool) (s : State) : (send v d s).All (R s) := by
  rw [send_eq]; split <;> exact h.tx _ _ _ _ _

theorem command (h : BusRel R) (v : Byte) (s : State) : (command v s).All (R s) := h.send v false s

theorem sendNibble (h : BusRel R) (n : Nibble) (s : State) : (sendNibble n s).All (R s) := by
  rw [sendNibble_eq]; split <;> exact h.tx _ _ _ _ _

theorem sendAll (h : BusRel R) (p : List Byte) (s : State) : (sendAll p s).All (R s) := by
  induction p generalizing s with
  | nil => exact h.refl s
  | cons b p ih => exact h.bind (h.send _ _ _) ih

theorem createChar (h : BusRel R) (k : Nat) (p : List Byte) (s : State) : (createCharBody k p s).All (R s) :=
  h.bind (h.command _ _) (h.sendAll p)

theorem setCursor (h : BusRel R) (hc : ∀ s c r, R s (s.setCursorPos c r)) (c r : Nat) (s : State) :
    (setCursor c r s).All (R s) := by
  rw [setCursor_eq]; split
  · exact h.refl s
  · exact h.before (hc _ _ _) (h.command _ _)

theorem glyph (h : BusRel R) (hc : ∀ s c r, R s (s.setCursorPos c r)) (c : Byte) (s : State) : (glyph c s).All (R s) := by
  unfold Machine.glyph
  refine h.bind (h.send _ _ _) fun t => ?_
  dsimp only; split
  · exact h.setCursor hc _ _ _
  · exact hc _ _ _

theorem fillSpaces (h : BusRel R) (hc : ∀ s c r, R s (s.setCursorPos c r)) (k : Nat) (s : State) :
    (fillSpaces k s).All (R s) := by
  induction k generalizing s with
  | zero => exact h.refl s
  | succ k ih => exact h.bind (h.glyph hc _ _) ih

theorem clearToEol (h : BusRel R) (hc : ∀ s c r, R s (s.setCursorPos c r)) (s : State) : (clearToEol s).All (R s) :=
  h.bind (h.fillSpaces hc _ _) (h.setCursor hc _ _)

theorem reinitialize (h : BusRel R) (hc : ∀ s c r, R s (s.setCursorPos c r)) (hw : ∀ s u, R s (wait u s)) (s : State) :
    (reinitialize s).All (R s) := by
  unfold Machine.reinitialize
  refine h.bind (h.command _ _) fun s => ?_
  refine h.bind (h.sendNibble _ _) fun s => ?_
  refine h.bind (h.before (hw _ _) (h.command _ _)) fun s => ?_
  refine h.bind (h.command _ _) fun s => ?_
  refine h.bind (h.command _ _) fun s => ?_
  exact h.bind (h.command _ _) fun s => h.trans (hw _ _) (hc _ _ _)

/-- Every byte but 0x01: no wait (70_reset_and_hazards.md R245). -/
theorem write_of_ne_reinit (h : BusRel R) (hc : ∀ s c r, R s (s.setCursorPos c r)) {ch : Byte} (hn : ch ≠ 0x01#8) (s : State) :
    (writeBody ch s).All (R s) := by
  unfold writeBody
  rw [if_neg hn]
  repeat' split
  · exact h.setCursor hc _ _ _
  · exact h.clearToEol hc _
  · exact h.setCursor hc _ _ _
  · exact h.setCursor hc _ _ _
  · exact h.glyph hc _ _

theorem write (h : BusRel R) (hc : ∀ s c r, R s (s.setCursorPos c r)) (hw : ∀ s u, R s (wait u s)) (ch : Byte) (s : State) :
    (writeBody ch s).All (R s) := by
  by_cases hn : ch = 0x01#8
  · subst hn; exact h.reinitialize hc hw s
  · exact h.write_of_ne_reinit hc hn s

/-- A host operation keeps what its body, the failure, the refusal and the outcome keep. -/
theorem hostOp (h : BusRel R) {check : State → Option Refusal} {draw : State → State} {ret : Option Nat} {body : State → Run}
    {s : State} (hb : (body s).All (R s)) (hf : ∀ s, R s (busFailure draw s)) (hr : ∀ s r, R s (s.turnedAway r))
    (hp : ∀ s v, R s (s.completed v)) : R s (hostOp check draw ret body s) := by
  rcases hostOp_cases check draw ret body s with ⟨r, _, e⟩ | ⟨_, t, e1, e⟩ | ⟨_, t, e1, e⟩ <;> rw [e]
  · exact hr _ _
  · rw [e1] at hb; exact h.trans hb (hp _ _)
  · rw [e1] at hb; exact h.trans hb (hf _)

end BusRel

end Sys2Proof.Machine
end

