-- ==== Sys2Proof/Laws/Operands.lean ====
section
/-! SUPPORT. What the operand forms mean: the argument domains as inequalities, the frame byte's fields, the calculators' bytes. -/

namespace Sys2Proof.Machine

theorem geometryInDomain_iff (c l : Int) : geometryInDomain c l = true ↔ 1 ≤ c ∧ c ≤ 255 ∧ 1 ≤ l ∧ l ≤ 4 := by
  simp only [geometryInDomain, Bool.and_eq_true, decide_eq_true_eq, and_assoc]
  simp [Config.maxColumns, Config.maxLines]

theorem argInDomain_iff (a : Int) : argInDomain a = true ↔ 0 ≤ a ∧ a ≤ 255 := by
  simp only [argInDomain, Bool.and_eq_true, decide_eq_true_eq]
  simp [Config.argMax]

theorem levelInDomain_iff (a : Int) : levelInDomain a = true ↔ -32768 ≤ a ∧ a ≤ 32767 := by
  simp only [levelInDomain, Bool.and_eq_true, decide_eq_true_eq]
  simp [Config.levelMin, Config.levelMax]

theorem patternInDomain_iff (p : List Byte) : patternInDomain p = true ↔ p.length = 8 := by
  simp [patternInDomain, Config.patternRows]

/-- The fields of a frame byte (41_nibble_transport.md R150). -/
theorem frameByte_fields (bl : Bool) (n : Nibble) (d : Bool) :
    frameByte bl n d = (n ++ BitVec.ofBool bl ++ 0b00#2 ++ BitVec.ofBool d : BitVec 8) := by
  revert n; cases bl <;> cases d <;> decide

/-- The two halves of a byte join to it (30_encoding.md R89). -/
theorem halves_join (v : Byte) : (highNibble v ++ lowNibble v : BitVec 8) = v := by
  revert v; decide +kernel

theorem joinNibbles_halves (v : Byte) : joinNibbles (highNibble v) (lowNibble v) = v := by
  revert v; decide +kernel

/-- `ddramCmd 0 0` is 0x80 (40_display_state.md R112). -/
theorem ddramCmd_zero : ddramCmd 0 0 = 0x80#8 := by decide

/-- A byte that is no escape byte decodes as a glyph (30_encoding.md R90). -/
theorem decodeChar_glyph {ch : Byte} (h : ch ∉ escapeBytes) : decodeChar ch = .charGlyph ch := by
  simp only [escapeBytes, List.mem_cons, List.not_mem_nil, or_false, not_or] at h
  simp [decodeChar, h]

end Sys2Proof.Machine
end

