-- ==== Sys2Proof/Laws/PerInstr.lean ====
section
/-! SUPPORT. Per instruction: its encoded word lies in its row of opcode_table.json (30_encoding.md R80, R82, R90), whatever its
operands. -/

namespace Sys2Proof.Laws.WordInRow

/-- The word `encode` writes for the instruction has the bits its table row fixes. -/
def Statement (i : Instr) : Prop :=
  ∀ (e : Encoded) (m b : Byte), encode i = some e → i.tableBits = some (m, b) → encodedBits e &&& m = b

/-- An instruction without an encoding (92_eei_decisions.md D24). -/
theorem of_noWord {i : Instr} (h : encode i = none) : Statement i := fun e m b he _ => by
  rw [h] at he; cases he

/-- An instruction whose word is `e`, in the row `m`, `b`. -/
theorem of_word {i : Instr} {e : Encoded} {m b : Byte} (he : encode i = some e) (ht : i.tableBits = some (m, b))
    (h : encodedBits e &&& m = b) : Statement i := fun e' m' b' he' ht' => by
  rw [he] at he'; rw [ht] at ht'; cases he'; cases ht'; exact h

theorem initializeBlock (c l : Int) : Statement (.initializeBlock c l) := of_noWord rfl
theorem reinitialize : Statement .reinitialize := of_noWord rfl
theorem home : Statement .home := of_noWord rfl
theorem setCursor (col row : Int) : Statement (.setCursor col row) := of_noWord rfl
theorem displayOn : Statement .displayOn := of_noWord rfl
theorem displayOff : Statement .displayOff := of_noWord rfl
theorem cursorOn : Statement .cursorOn := of_noWord rfl
theorem cursorOff : Statement .cursorOff := of_noWord rfl
theorem blinkOn : Statement .blinkOn := of_noWord rfl
theorem blinkOff : Statement .blinkOff := of_noWord rfl
theorem leftToRight : Statement .leftToRight := of_noWord rfl
theorem rightToLeft : Statement .rightToLeft := of_noWord rfl
theorem autoscrollOn : Statement .autoscrollOn := of_noWord rfl
theorem autoscrollOff : Statement .autoscrollOff := of_noWord rfl
theorem scrollLeft : Statement .scrollLeft := of_noWord rfl
theorem scrollRight : Statement .scrollRight := of_noWord rfl
theorem setBacklight (level : Int) : Statement (.setBacklight level) := of_noWord rfl
theorem createChar (slot : Int) (pattern : List Byte) : Statement (.createChar slot pattern) := of_noWord rfl
theorem write (ch : Byte) : Statement (.write ch) := of_noWord rfl
theorem charReinit : Statement .charReinit := of_word rfl rfl (by decide)
theorem charHome : Statement .charHome := of_word rfl rfl (by decide)
theorem charClrEol : Statement .charClrEol := of_word rfl rfl (by decide)
theorem charCr : Statement .charCr := of_word rfl rfl (by decide)
theorem charLf : Statement .charLf := of_word rfl rfl (by decide)
theorem charGlyph (c : Byte) : Statement (.charGlyph c) := of_word rfl rfl BitVec.and_zero
theorem cmdClear : Statement .cmdClear := of_word rfl rfl (by decide)
theorem cmdEntryModeSet (i s : Bool) : Statement (.cmdEntryModeSet i s) :=
  of_word rfl rfl (by cases i <;> cases s <;> decide)
theorem cmdDisplayControl (d c b : Bool) : Statement (.cmdDisplayControl d c b) :=
  of_word rfl rfl (by cases d <;> cases c <;> cases b <;> decide)
theorem cmdDisplayShift (r : Bool) : Statement (.cmdDisplayShift r) := of_word rfl rfl (by cases r <;> decide)
theorem cmdFunctionSet (n : Bool) : Statement (.cmdFunctionSet n) := of_word rfl rfl (by cases n <;> decide)
theorem cmdSetCgramAddr (s : BitVec 3) : Statement (.cmdSetCgramAddr s) := of_word rfl rfl (by revert s; decide)
theorem cmdSetDdramAddr (a : BitVec 7) : Statement (.cmdSetDdramAddr a) := of_word rfl rfl (by revert a; decide +kernel)
theorem cmdNull : Statement .cmdNull := of_word rfl rfl (by decide)
theorem cmdForceNibble : Statement .cmdForceNibble := of_word rfl rfl (by decide)
theorem frame (n : Nibble) (b e r : Bool) : Statement (.frame n b e r) :=
  of_word rfl rfl (by revert n; cases b <;> cases e <;> cases r <;> decide)
theorem writeNibble (n : Nibble) (isData : Bool) : Statement (.writeNibble n isData) := of_noWord rfl
theorem send (value : Byte) (isData : Bool) : Statement (.send value isData) := of_noWord rfl
theorem sendNibble (n : Nibble) : Statement (.sendNibble n) := of_noWord rfl

end Sys2Proof.Laws.WordInRow
end

