-- ==== Sys2Proof/Tests/Slice0.lean ====
section
/-! SUPPORT. Tests. Expected values come from spec/ (each theorem names the vector of 95_test_vectors.md or the rule); the witnesses meet
the hypotheses of the obligations. -/

namespace Sys2Proof.Tests

open Sys2Proof.Machine

/-! ## Helpers -/

/-- A device after `initialize c, l` (10_state.md R35) with an empty trace, `lastRS` false and forty closes that succeed. -/
def demo (c l : Nat) : State :=
  { State.reset with
    initialized := true, columns := c, lines := l, entryMode := 0x02#8, displayControl := 0x04#8, cursorRow := 0, cursorCol := 0,
    lastRS := false, busAnswers := List.replicate 40 true }

/-- The device of most vectors: 16 by 2. -/
def lcd : State := demo 16 2

/-- The cursor at (col, row). -/
def State.at' (s : State) (col row : Nat) : State := { s with cursorCol := col, cursorRow := row }

/-- A constructed device, its bus script and `lastRS` given. -/
def fresh (rs : Bool) : State := { State.reset with lastRS := rs, busAnswers := List.replicate 40 true }

/-- `s` with its closes answered `n` times with success and then with failure. -/
def failing (n : Nat) (s : State) : State := { s with busAnswers := List.replicate n true ++ [false] }

/-- The byte lists of a trace's transactions, in order; a wait stands as an empty list. -/
def txLists : List Event → List Byte → List (List Byte)
  | [], _ => []
  | .txBegin _ :: rest, _ => txLists rest []
  | .txByte b :: rest, bs => txLists rest (bs ++ [b])
  | .txEnd _ :: rest, bs => bs :: txLists rest []
  | .wait _ :: rest, _ => [] :: txLists rest []

/-- What a test reads from a next state: its transactions, cursor (col, row) and `lastRS`. -/
structure Seen where
  tx : List (List Byte)
  cursor : Nat × Nat
  rs : Bool
  deriving DecidableEq, Repr

/-- Read the state after `i`. -/
def seen (i : Instr) (s : State) : Option Seen :=
  match exec i s with
  | .next t => some { tx := txLists t.trace [], cursor := (t.cursorCol, t.cursorRow), rs := t.lastRS }
  | _ => none

/-- Read one more value of the state after `i`. -/
def after {α : Type} (i : Instr) (s : State) (f : State → α) : Option α :=
  match exec i s with
  | .next t => some (f t)
  | _ => none

/-! ## Well-formedness: each check refuses an ill-formed term -/

theorem test_wf_initialize : (Instr.initializeBlock 255 4).wellFormed = true ∧ (Instr.initializeBlock 0 2).wellFormed = false ∧
    (Instr.initializeBlock 256 1).wellFormed = false ∧ (Instr.initializeBlock 16 0).wellFormed = false ∧
    (Instr.initializeBlock 16 5).wellFormed = false := by decide

theorem test_wf_setCursor : (Instr.setCursor 255 255).wellFormed = true ∧ (Instr.setCursor 256 0).wellFormed = false ∧
    (Instr.setCursor (-1) 0).wellFormed = false ∧ (Instr.setCursor 0 256).wellFormed = false ∧
    (Instr.setCursor 0 (-1)).wellFormed = false := by decide

theorem test_wf_setBacklight : (Instr.setBacklight 32767).wellFormed = true ∧ (Instr.setBacklight (-32768)).wellFormed = true ∧
    (Instr.setBacklight 32768).wellFormed = false ∧ (Instr.setBacklight (-32769)).wellFormed = false := by decide

theorem test_wf_createChar : (Instr.createChar 255 (List.replicate 8 0#8)).wellFormed = true ∧
    (Instr.createChar 256 (List.replicate 8 0#8)).wellFormed = false ∧
    (Instr.createChar (-1) (List.replicate 8 0#8)).wellFormed = false ∧
    (Instr.createChar 0 (List.replicate 7 0#8)).wellFormed = false ∧
    (Instr.createChar 0 (List.replicate 9 0#8)).wellFormed = false := by decide

theorem test_wf_glyph : (Instr.charGlyph 0x41#8).wellFormed = true ∧
    escapeBytes.all (fun b => !(Instr.charGlyph b).wellFormed) = true := by decide

/-! ## Decoding: words written out from 30_encoding.md R90, R82, R80 -/

theorem test_decode_charIn : decodeTableWord 8 0b00000001 = some .charReinit ∧ decodeTableWord 8 0b00000010 = some .charHome ∧
    decodeTableWord 8 0b00000011 = some .charClrEol ∧ decodeTableWord 8 0b00001101 = some .charCr ∧
    decodeTableWord 8 0b00001010 = some .charLf ∧ decodeTableWord 8 0b00000000 = some (.charGlyph 0x00#8) ∧
    decodeTableWord 8 0b11111111 = some (.charGlyph 0xFF#8) ∧ decodeTableWord 0 0 = none ∧ decodeTableWord 16 0x4241 = none := by
  decide

theorem test_decode_clear : decodeCommand 0b00000001#8 = .ok .cmdClear := by decide
theorem test_decode_entryModeSet : decodeCommand 0b00000110#8 = .ok (.cmdEntryModeSet true false) ∧
    decodeCommand 0b00000101#8 = .ok (.cmdEntryModeSet false true) := by decide
theorem test_decode_displayControl : decodeCommand 0b00001100#8 = .ok (.cmdDisplayControl true false false) ∧
    decodeCommand 0b00001010#8 = .ok (.cmdDisplayControl false true false) ∧
    decodeCommand 0b00001001#8 = .ok (.cmdDisplayControl false false true) := by decide
theorem test_decode_displayShift : decodeCommand 0b00011100#8 = .ok (.cmdDisplayShift true) ∧
    decodeCommand 0b00011000#8 = .ok (.cmdDisplayShift false) := by decide
theorem test_decode_functionSet : decodeCommand 0b00101000#8 = .ok (.cmdFunctionSet true) ∧
    decodeCommand 0b00100000#8 = .ok (.cmdFunctionSet false) := by decide
theorem test_decode_setCgram : decodeCommand 0b01101000#8 = .ok (.cmdSetCgramAddr 5#3) ∧
    decodeCommand 0b01110000#8 = .ok (.cmdSetCgramAddr 6#3) := by decide
theorem test_decode_setDdram : decodeCommand 0b11000101#8 = .ok (.cmdSetDdramAddr 0x45#7) ∧
    decodeCommand 0b10000000#8 = .ok (.cmdSetDdramAddr 0x00#7) := by decide
theorem test_decode_null : decodeCommand 0b00000000#8 = .ok .cmdNull := by decide
theorem test_decode_forceNibble : decodeNibbleCommand 0b0010#4 = .ok .cmdForceNibble ∧
    decodeNibbleCommand 0b0011#4 = .rejected .otherNibble := by decide
theorem test_decode_frame : decodeFrame 0b01001101#8 = .ok (.frame 0b0100#4 true true true) ∧
    decodeFrame 0b10010001#8 = .ok (.frame 0b1001#4 false false true) ∧ decodeFrame 0b00000010#8 = .rejected .readFrame := by
  decide

/-- R93 (c), R84: the encodings that are never produced are rejected by name. -/
theorem test_decode_rejects : decodeCommand 0x02#8 = .rejected .returnHome ∧ decodeCommand 0x03#8 = .rejected .returnHome ∧
    decodeCommand 0x10#8 = .rejected .cursorShift ∧ decodeCommand 0x17#8 = .rejected .cursorShift ∧
    decodeCommand 0x19#8 = .rejected .otherDisplayShift ∧ decodeCommand 0x30#8 = .rejected .otherFunctionSet ∧
    decodeCommand 0x24#8 = .rejected .otherFunctionSet ∧ decodeCommand 0x41#8 = .rejected .otherCgramAddr := by decide

theorem test_encode_words : encode (.cmdEntryModeSet true true) = some (.ctrlCmd 0b00000111#8) ∧
    encode (.cmdDisplayControl true true true) = some (.ctrlCmd 0b00001111#8) ∧
    encode (.cmdSetCgramAddr 7#3) = some (.ctrlCmd 0b01111000#8) ∧ encode (.cmdSetDdramAddr 0x7F#7) = some (.ctrlCmd 0xFF#8) ∧
    encode (.frame 0xA#4 false true false) = some (.frame 0b10100100#8) ∧ encode .home = none := by decide

/-- TR10. -/
theorem test_deliveredNibbles : deliveredNibbles [0x41#8, 0x45#8, 0x41#8, 0x15#8, 0x11#8] = [(4#4, true), (1#4, true)] ∧
    joinNibbles 0x4#4 0x1#4 = 0x41#8 := by decide

/-! ## Transport -/

/-- L1-4 steps 1 and 2. -/
theorem test_send_first : seen (.send 0x41#8 true) lcd = some ⟨[[0x41, 0x45, 0x41, 0x15, 0x11]], (0, 0), true⟩ := by decide +kernel
/-- L1-4 step 3. -/
theorem test_send_back : seen (.send 0x01#8 false) { lcd with lastRS := true } =
    some ⟨[[0x00, 0x04, 0x00, 0x14, 0x10]], (0, 0), false⟩ := by decide +kernel
/-- TR6, TR7. -/
theorem test_sendNibble : seen (.sendNibble 0x2#4) { lcd with lastRS := true } = some ⟨[[0x20, 0x24, 0x20]], (0, 0), false⟩ ∧
    seen (.sendNibble 0x2#4) { lcd with backlightLevel := 1 } = some ⟨[[0x2C, 0x28]], (0, 0), false⟩ := by decide +kernel
/-- R151: frame 0x40 with its strobe, no pre-write. -/
theorem test_writeNibble : after (.writeNibble 0x4#4 false) lcd (fun t => (t.trace, t.lastRS)) =
    some ([.txByte 0x44#8, .txByte 0x40#8], false) := by decide +kernel
/-- R80: `nnnnbe0r` with n = 4, b = e = r = 1. -/
theorem test_frame : after (.frame 0x4#4 true true true) lcd (fun t => (t.trace, t.lastRS)) = some ([.txByte 0x4D#8], false) := by
  decide +kernel
/-- TR8: a negative level de-asserts. -/
theorem test_frame_backlight : seen (.send 0x41#8 true) { lcd with backlightLevel := -3 } =
    some ⟨[[0x41, 0x45, 0x41, 0x15, 0x11]], (0, 0), true⟩ := by decide +kernel

/-! ## Controller commands (R82) -/

theorem test_cmdClear : seen .cmdClear lcd = some ⟨[[0x04, 0x00, 0x14, 0x10]], (0, 0), false⟩ := by decide +kernel
theorem test_cmdEntryModeSet : seen (.cmdEntryModeSet true false) lcd = some ⟨[[0x04, 0x00, 0x64, 0x60]], (0, 0), false⟩ := by
  decide +kernel
theorem test_cmdDisplayControl : seen (.cmdDisplayControl true false false) lcd =
    some ⟨[[0x04, 0x00, 0xC4, 0xC0]], (0, 0), false⟩ := by decide +kernel
theorem test_cmdDisplayShift : seen (.cmdDisplayShift true) lcd = some ⟨[[0x14, 0x10, 0xC4, 0xC0]], (0, 0), false⟩ := by
  decide +kernel
theorem test_cmdFunctionSet : seen (.cmdFunctionSet true) lcd = some ⟨[[0x24, 0x20, 0x84, 0x80]], (0, 0), false⟩ := by
  decide +kernel
theorem test_cmdSetCgramAddr : seen (.cmdSetCgramAddr 1#3) lcd = some ⟨[[0x44, 0x40, 0x84, 0x80]], (0, 0), false⟩ := by
  decide +kernel
theorem test_cmdSetDdramAddr : seen (.cmdSetDdramAddr 0x43#7) lcd = some ⟨[[0xC4, 0xC0, 0x34, 0x30]], (0, 0), false⟩ := by
  decide +kernel
theorem test_cmdNull : seen .cmdNull lcd = some ⟨[[0x04, 0x00, 0x04, 0x00]], (0, 0), false⟩ := by decide +kernel
theorem test_cmdForceNibble : seen .cmdForceNibble lcd = some ⟨[[0x24, 0x20]], (0, 0), false⟩ := by decide +kernel

/-! ## Cursor -/

/-- L1-2, AD16. -/
theorem test_setCursor_wraps : seen (.setCursor 255 255) lcd = some ⟨[[0xC4, 0xC0, 0xF4, 0xF0]], (15, 1), false⟩ ∧
    seen (.setCursor 0 6) (demo 20 4) = some ⟨[[0x94, 0x90, 0x44, 0x40]], (0, 2), false⟩ := by decide +kernel
/-- L1-1, AD13, AD12. -/
theorem test_setCursor_dedup : seen (.setCursor 3 1) (State.at' lcd 3 1) = some ⟨[], (3, 1), false⟩ ∧
    seen (.setCursor 16 0) lcd = some ⟨[[0x84, 0x80, 0x04, 0x00]], (0, 0), false⟩ ∧
    seen (.setCursor 199 3) (demo 200 4) = some ⟨[[0x94, 0x90, 0xB4, 0xB0]], (199, 3), false⟩ := by decide +kernel
/-- R112: the pure values. -/
theorem test_ddramCmd : ddramCmd 0 1 = 0xC0#8 ∧ ddramCmd 0 2 = 0x94#8 ∧ ddramCmd 0 3 = 0xD4#8 ∧ ddramCmd 15 1 = 0xCF#8 ∧
    ddramCmd 63 1 = 0xFF#8 ∧ ddramCmd 64 1 = 0x80#8 ∧ ddramCmd 70 1 = 0x86#8 := by decide
/-- AD20, AD21. -/
theorem test_home : seen .home (State.at' lcd 3 1) = some ⟨[[0x84, 0x80, 0x04, 0x00]], (0, 0), false⟩ ∧
    seen .home lcd = some ⟨[], (0, 0), false⟩ := by decide +kernel

/-! ## Mutators and shifts -/

/-- MU1, MU5. -/
theorem test_displayOn : seen .displayOn lcd = some ⟨[[0x04, 0x00, 0xC4, 0xC0]], (0, 0), false⟩ ∧
    after .displayOn { lcd with displayControl := 0x03 } State.displayControl = some 0x07#8 := by decide +kernel
/-- MU4. -/
theorem test_displayOff : seen .displayOff { lcd with displayControl := 0x07 } = some ⟨[[0x04, 0x00, 0xB4, 0xB0]], (0, 0), false⟩ ∧
    after .displayOff { lcd with displayControl := 0x07 } State.displayControl = some 0x03#8 := by decide +kernel
/-- MU12. -/
theorem test_cursorOn : seen .cursorOn { lcd with backlightLevel := 1 } = some ⟨[[0x0C, 0x08, 0xEC, 0xE8]], (0, 0), false⟩ ∧
    after .cursorOn lcd State.displayControl = some 0x06#8 := by decide +kernel
/-- MU6. -/
theorem test_cursorOff : seen .cursorOff { lcd with displayControl := 0x06 } = some ⟨[[0x04, 0x00, 0xC4, 0xC0]], (0, 0), false⟩ ∧
    after .cursorOff { lcd with displayControl := 0x06 } State.displayControl = some 0x04#8 := by decide +kernel
/-- MU3, second step. -/
theorem test_blinkOn : seen .blinkOn { lcd with displayControl := 0x06 } = some ⟨[[0x04, 0x00, 0xF4, 0xF0]], (0, 0), false⟩ ∧
    after .blinkOn { lcd with displayControl := 0x06 } State.displayControl = some 0x07#8 := by decide +kernel
/-- MU7. -/
theorem test_blinkOff : seen .blinkOff { lcd with displayControl := 0x05 } = some ⟨[[0x04, 0x00, 0xC4, 0xC0]], (0, 0), false⟩ ∧
    after .blinkOff { lcd with displayControl := 0x05 } State.displayControl = some 0x04#8 := by decide +kernel
/-- MU8. -/
theorem test_leftToRight : seen .leftToRight lcd = some ⟨[[0x04, 0x00, 0x64, 0x60]], (0, 0), false⟩ ∧
    after .leftToRight lcd State.entryMode = some 0x02#8 := by decide +kernel
/-- MU9, first step. -/
theorem test_rightToLeft : seen .rightToLeft lcd = some ⟨[[0x04, 0x00, 0x44, 0x40]], (0, 0), false⟩ ∧
    after .rightToLeft lcd State.entryMode = some 0x00#8 := by decide +kernel
/-- MU10. -/
theorem test_autoscrollOn : seen .autoscrollOn lcd = some ⟨[[0x04, 0x00, 0x74, 0x70]], (0, 0), false⟩ ∧
    after .autoscrollOn lcd State.entryMode = some 0x03#8 := by decide +kernel
/-- MU11. -/
theorem test_autoscrollOff : seen .autoscrollOff { lcd with entryMode := 0x03 } =
      some ⟨[[0x04, 0x00, 0x64, 0x60]], (0, 0), false⟩ ∧
    after .autoscrollOff { lcd with entryMode := 0x03 } State.entryMode = some 0x02#8 := by decide +kernel
/-- SC1. -/
theorem test_scrollLeft : seen .scrollLeft lcd = some ⟨[[0x14, 0x10, 0xC4, 0xC0]], (0, 0), false⟩ := by decide +kernel
/-- SC4. -/
theorem test_scrollRight : seen .scrollRight { State.at' lcd 1 0 with lastRS := true } =
    some ⟨[[0x10, 0x14, 0x10, 0x84, 0x80]], (1, 0), false⟩ := by decide +kernel

/-! ## Reset sequence -/

/-- RI1 and RI2: a wait stands as an empty list. -/
theorem test_initialize : seen (.initializeBlock 16 2) (fresh true) =
    some ⟨[[0x00, 0x04, 0x00, 0x14, 0x10], [0x24, 0x20], [], [0x24, 0x20, 0x84, 0x80], [0x04, 0x00, 0x64, 0x60],
      [0x04, 0x00, 0xC4, 0xC0], [0x04, 0x00, 0x14, 0x10], []], (0, 0), false⟩ := by decide +kernel
/-- RF4 and RF8. -/
theorem test_initialize_refused : after (.initializeBlock 0 2) (fresh false) (fun t => (t.refused, t.trace, t.results)) =
      some (true, [], [.refused .geometryOutOfDomain]) ∧
    after (.initializeBlock 16 2) lcd (fun t => (t.refused, t.trace, t.results)) =
      some (true, [], [.refused .alreadyInitialized]) := by decide +kernel
/-- RI5. -/
theorem test_reinitialize : seen .reinitialize { State.at' (demo 16 1) 4 0 with backlightLevel := 1, lastRS := true } =
    some ⟨[[0x08, 0x0C, 0x08, 0x1C, 0x18], [0x2C, 0x28], [], [0x2C, 0x28, 0x0C, 0x08], [0x0C, 0x08, 0x6C, 0x68],
      [0x0C, 0x08, 0xCC, 0xC8], [0x0C, 0x08, 0x1C, 0x18], []], (0, 0), false⟩ := by decide +kernel
/-- BF2. -/
theorem test_reinitialize_fails : after .reinitialize (failing 1 lcd) (fun t => (txLists t.trace [], t.busFault, t.results)) =
    some ([[0x04, 0x00, 0x14, 0x10], [0x24, 0x20]], true, [.raised .busFailure]) := by decide +kernel

/-! ## Character sink -/

/-- GL2. -/
theorem test_write_glyph : seen (.write 0x5A#8) (State.at' lcd 15 0) =
    some ⟨[[0x51, 0x55, 0x51, 0xA5, 0xA1], [0xC0, 0xC4, 0xC0, 0x04, 0x00]], (0, 1), false⟩ := by decide +kernel
/-- BF3: `write` returns nothing. -/
theorem test_write_fails : after (.write 0x5A#8) (failing 1 (State.at' lcd 15 0)) (fun t => (txLists t.trace [], t.results, t.lastRS)) =
    some ([[0x51, 0x55, 0x51, 0xA5, 0xA1], [0xC0, 0xC4, 0xC0, 0x04, 0x00]], [.raised .busFailure], false) := by decide +kernel
/-- GL5. -/
theorem test_charGlyph : seen (.charGlyph 0x41#8) (demo 1 1) =
    some ⟨[[0x41, 0x45, 0x41, 0x15, 0x11], [0x80, 0x84, 0x80, 0x04, 0x00]], (0, 0), false⟩ := by decide +kernel
/-- WD1: the count is 1. -/
theorem test_charGlyph_count : after (.charGlyph 0x41#8) lcd (fun t => (txLists t.trace [], t.cursorCol, t.results)) =
    some ([[0x41, 0x45, 0x41, 0x15, 0x11]], 1, [.returned (some 1)]) := by decide +kernel
/-- RI8. -/
theorem test_charReinit : seen .charReinit { State.at' lcd 5 1 with lastRS := true } =
    some ⟨[[0x00, 0x04, 0x00, 0x14, 0x10], [0x24, 0x20], [], [0x24, 0x20, 0x84, 0x80], [0x04, 0x00, 0x64, 0x60],
      [0x04, 0x00, 0xC4, 0xC0], [0x04, 0x00, 0x14, 0x10], []], (0, 0), false⟩ := by decide +kernel
/-- WD10, WD11. -/
theorem test_charHome : seen .charHome (State.at' lcd 3 1) = some ⟨[[0x84, 0x80, 0x04, 0x00]], (0, 0), false⟩ ∧
    seen .charHome lcd = some ⟨[], (0, 0), false⟩ := by decide +kernel
/-- CE1. -/
theorem test_charClrEol : seen .charClrEol (State.at' lcd 14 0) =
    some ⟨[[0x21, 0x25, 0x21, 0x05, 0x01], [0x25, 0x21, 0x05, 0x01], [0xC0, 0xC4, 0xC0, 0x04, 0x00], [0x84, 0x80, 0xE4, 0xE0]],
      (14, 0), false⟩ := by decide +kernel
/-- CE3: the restore is deduplicated. -/
theorem test_charClrEol_oneLine : seen .charClrEol (demo 4 1) =
    some ⟨[[0x21, 0x25, 0x21, 0x05, 0x01], [0x25, 0x21, 0x05, 0x01], [0x25, 0x21, 0x05, 0x01], [0x25, 0x21, 0x05, 0x01],
      [0x80, 0x84, 0x80, 0x04, 0x00]], (0, 0), false⟩ := by decide +kernel
/-- CL1, CL3. -/
theorem test_charCr : seen .charCr lcd = some ⟨[], (0, 0), false⟩ ∧
    seen .charCr (State.at' lcd 5 1) = some ⟨[[0xC4, 0xC0, 0x04, 0x00]], (0, 1), false⟩ := by decide +kernel
/-- CL5, CL6. -/
theorem test_charLf : seen .charLf (State.at' lcd 4 1) = some ⟨[[0x84, 0x80, 0x44, 0x40]], (4, 0), false⟩ ∧
    seen .charLf (State.at' (demo 16 1) 4 0) = some ⟨[[0x84, 0x80, 0x44, 0x40]], (4, 0), false⟩ := by decide +kernel

/-! ## Custom glyphs and backlight -/

/-- CG4. -/
theorem test_createChar : seen (.createChar 1 [0x1F, 0x11, 0x11, 0x11, 0x11, 0x11, 0x1F, 0x00]) lcd =
    some ⟨[[0x44, 0x40, 0x84, 0x80], [0x11, 0x15, 0x11, 0xF5, 0xF1], [0x15, 0x11, 0x15, 0x11], [0x15, 0x11, 0x15, 0x11],
      [0x15, 0x11, 0x15, 0x11], [0x15, 0x11, 0x15, 0x11], [0x15, 0x11, 0x15, 0x11], [0x15, 0x11, 0xF5, 0xF1],
      [0x05, 0x01, 0x05, 0x01]], (0, 0), true⟩ := by decide +kernel
/-- R191: slot 8 aliases slot 0, slot 15 slot 7. -/
theorem test_cgramCmd : cgramCmd 0 = 0x40#8 ∧ cgramCmd 7 = 0x78#8 ∧ cgramCmd 8 = 0x40#8 ∧ cgramCmd 9 = 0x48#8 ∧
    cgramCmd 15 = 0x78#8 ∧ cgramCmd 255 = 0x78#8 := by decide
/-- BK5, BK4. -/
theorem test_setBacklight : seen (.setBacklight 1) { State.at' lcd 1 0 with lastRS := true } =
      some ⟨[[0x08, 0x0C, 0x08, 0x0C, 0x08]], (1, 0), false⟩ ∧
    after (.setBacklight (-1)) lcd (fun t => (txLists t.trace [], t.backlightLevel)) = some ([[0x04, 0x00, 0x04, 0x00]], -1) := by
  decide +kernel
/-- RF13. -/
theorem test_setBacklight_refused : after (.setBacklight 32768) lcd (fun t => (t.refused, t.trace, t.results)) =
    some (true, [], [.refused .argumentOutOfDomain]) := by decide +kernel

/-! ## The host's port -/

/-- R92 (b): `print` of two bytes is two bytes for `write`, in order. -/
theorem test_placeString : (placeString [0x48#8, 0x69#8] lcd).input = [.byte 0x48#8, .byte 0x69#8] := by decide
/-- R90: the placed word is the next input, before the others. -/
theorem test_withFetchWord : (({ lcd with input := [.call .home] } : State).withFetchWord 8 0x0A).input =
    [.byte 0x0A#8, .call .home] := by decide

/-! ## Witnesses: the hypotheses of each obligation are met, clause by clause, at boundary values -/

/-- A state with pending inputs, a conforming trace and the domains. -/
def running (input : List HostInput) : State := { lcd with lastRS := Config.initLastRS, input := input }

theorem witness_StepRunsNextHostInput : (running [.call .home]).input = .call .home :: [] ∧
    (running [.byte 0x0A#8]).input = .byte 0x0A#8 :: [] ∧ (running []).input = [] ∧ 0 < 256 ∧ 255 < 256 := by decide

theorem witness_DecodeOfEncodeIsTheInstruction : (Instr.charGlyph 0xFF#8).wellFormed = true ∧
    encode (.charGlyph 0xFF#8) = some (.charIn 0xFF#8) := by decide

theorem witness_EncodeOfDecodeIsTheWord : decodeEncoded (.ctrlCmd 0xFF#8) = .ok (.cmdSetDdramAddr 0x7F#7) ∧
    decodeEncoded (.ctrlNibble 0x2#4) = .ok .cmdForceNibble := by decide

theorem witness_CommandRowsDoNotOverlap : Instr.cmdNull.format = .ctrlCmd ∧ (Instr.cmdSetDdramAddr 0#7).format = .ctrlCmd ∧
    Instr.cmdNull ≠ .cmdForceNibble ∧ Instr.cmdSetDdramAddr 0#7 ≠ .cmdForceNibble ∧
    Instr.cmdNull.tableBits = some (0xFF#8, 0x00#8) ∧ (0x00#8 : Byte) &&& 0xFF#8 = 0x00#8 ∧
    (Instr.cmdSetDdramAddr 0#7).tableBits = some (0x80#8, 0x80#8) ∧ (0xFF#8 : Byte) &&& 0x80#8 = 0x80#8 := by decide

/-- The last column of 44 and the last of 255, where the sum is truncated. -/
theorem witness_SetDdramByteIsTopBitAndAddressModulo128 : (43 < 44 ∧ 3 < 4 ∧ 4 ≤ 4 ∧ 44 ≤ 44) ∧ (254 < 255 ∧ 3 < 4 ∧ 4 ≤ 4) ∧
    (0 < 1 ∧ 0 < 1 ∧ 1 ≤ 4) := by decide

theorem witness_DdramRowBases : 0 < 128 ∧ 127 < 128 ∧ 63 < 64 ∧ 107 < 108 ∧ 43 < 44 := by decide

theorem witness_SendsComplete : lcd.ClosesOk 1 := by decide

theorem witness_PreWriteExactlyWhenRegisterSelectChanges : ∃ t u, exec (.send 0x41#8 true) lcd = .next t ∧
    exec (.send 0x01#8 false) t = .next u := ⟨_, _, rfl, rfl⟩

theorem witness_SendReadsOnlyBacklightAndLastRS :
    decide (lcd.backlightLevel > 0) = decide ((State.at' { lcd with backlightLevel := -5 } 3 1).backlightLevel > 0) ∧
    lcd.lastRS = (State.at' { lcd with backlightLevel := -5 } 3 1).lastRS ∧
    lcd.answerAt 0 = (State.at' { lcd with backlightLevel := -5 } 3 1).answerAt 0 := by decide

theorem witness_ControllerCommandsComplete : lcd.ClosesOk 1 := by decide

theorem witness_DisplayControlMutatorsComplete : lcd.initialized = true ∧ lcd.ClosesOk 1 := by decide

theorem witness_EntryModeMutatorsComplete : lcd.initialized = true ∧ lcd.ClosesOk 1 := by decide

theorem witness_MutatorBytesStayInTheirRows : lcd.initialized = true ∧ lcd.InDomains ∧ lcd.ClosesOk 1 ∧
    ({ lcd with entryMode := 0x03, displayControl := 0x07 } : State).InDomains := by decide

theorem witness_ScrollsSendTheirFixedCommand : lcd.initialized = true ∧ lcd.ClosesOk 1 ∧
    (failing 0 lcd).initialized = true ∧ (failing 0 lcd).answerAt 0 = false := by decide

theorem witness_SetCursorDeduplicatesWrapsAndSends_same : lcd.initialized = true ∧ (0 : Int) ≤ 0 ∧ (0 : Int) ≤ 255 ∧
    (0 : Int) = lcd.cursorCol ∧ (0 : Int) = lcd.cursorRow := by decide

theorem witness_SetCursorDeduplicatesWrapsAndSends_moves : lcd.initialized = true ∧ (0 : Int) ≤ 255 ∧ (255 : Int) ≤ 255 ∧
    ¬((255 : Int) = lcd.cursorCol ∧ (255 : Int) = lcd.cursorRow) ∧ lcd.ClosesOk 1 := by decide

theorem witness_SetCursorDeduplicatesWrapsAndSends_fails : (failing 0 lcd).initialized = true ∧ (0 : Int) ≤ 255 ∧ (255 : Int) ≤ 255 ∧
    ¬((255 : Int) = (failing 0 lcd).cursorCol ∧ (255 : Int) = (failing 0 lcd).cursorRow) ∧ (failing 0 lcd).answerAt 0 = false ∧
    0 < (failing 0 lcd).columns ∧ 0 < (failing 0 lcd).lines := by decide

theorem witness_HomeIsSetCursorZeroZero : (lcd.initialized = true ∧ lcd.cursorCol = 0 ∧ lcd.cursorRow = 0) ∧
    ((State.at' lcd 0 1).initialized = true ∧ ¬((State.at' lcd 0 1).cursorCol = 0 ∧ (State.at' lcd 0 1).cursorRow = 0) ∧
      (State.at' lcd 0 1).ClosesOk 1) := by decide

theorem witness_RepeatedSetCursorEmitsNothing : lcd.initialized = true ∧ (0 : Int) ≤ 15 ∧ (15 : Int) ≤ 255 ∧ (0 : Int) ≤ 1 ∧
    (1 : Int) ≤ 255 ∧ (15 : Int) < lcd.columns ∧ (1 : Int) < lcd.lines ∧ lcd.ClosesOk 1 ∧
    ∃ t, exec (.setCursor 15 1) lcd = .next t :=
  ⟨by decide, by decide, by decide, by decide, by decide, by decide, by decide, by decide, _, rfl⟩

theorem witness_ReinitializeCompletes : lcd.initialized = true ∧ lcd.ClosesOk 6 := by decide

theorem witness_ReinitializeStopsAtTheFirstFailedClose :
    ((failing 0 lcd).initialized = true ∧ 0 < 6 ∧ (failing 0 lcd).ClosesOk 0 ∧ (failing 0 lcd).answerAt 0 = false) ∧
    ((failing 1 lcd).ClosesOk 1 ∧ (failing 1 lcd).answerAt 1 = false) ∧
    ((failing 2 lcd).ClosesOk 2 ∧ (failing 2 lcd).answerAt 2 = false) ∧
    ((failing 5 lcd).initialized = true ∧ 5 < 6 ∧ (failing 5 lcd).ClosesOk 5 ∧ (failing 5 lcd).answerAt 5 = false) := by decide

theorem witness_InitializeCompletes : (fresh false).initialized = false ∧ (1 : Int) ≤ 1 ∧ (1 : Int) ≤ 255 ∧ (1 : Int) ≤ 4 ∧
    (1 : Int) ≤ 255 ∧ (255 : Int) ≤ 255 ∧ (4 : Int) ≤ 4 ∧ (fresh false).ClosesOk 6 := by decide

theorem witness_WriteReinitCompletes : lcd.initialized = true ∧ lcd.ClosesOk 6 := by decide

theorem witness_WriteHomeCompletes : (lcd.initialized = true ∧ lcd.cursorCol = 0 ∧ lcd.cursorRow = 0) ∧
    ((State.at' lcd 3 1).initialized = true ∧ ¬((State.at' lcd 3 1).cursorCol = 0 ∧ (State.at' lcd 3 1).cursorRow = 0) ∧
      (State.at' lcd 3 1).ClosesOk 1) := by decide

theorem witness_CarriageReturnCompletes : (lcd.initialized = true ∧ lcd.cursorRow < lcd.lines ∧ lcd.cursorCol = 0) ∧
    ((State.at' lcd 15 1).initialized = true ∧ (State.at' lcd 15 1).cursorRow < (State.at' lcd 15 1).lines ∧
      (State.at' lcd 15 1).cursorCol ≠ 0 ∧ (State.at' lcd 15 1).ClosesOk 1) := by decide

theorem witness_LineFeedCompletes : (State.at' lcd 15 1).initialized = true ∧
    (State.at' lcd 15 1).cursorCol < (State.at' lcd 15 1).columns ∧ (State.at' lcd 15 1).ClosesOk 1 := by decide

theorem witness_GlyphAdvancesTheColumn : (State.at' lcd 14 0).initialized = true ∧
    (State.at' lcd 14 0).cursorCol + 1 ≠ (State.at' lcd 14 0).columns ∧ (State.at' lcd 14 0).ClosesOk 1 ∧
    (0x41#8 : Byte) ∉ escapeBytes := by decide

theorem witness_GlyphWrapsToTheNextRow : (State.at' lcd 15 0).initialized = true ∧
    (State.at' lcd 15 0).cursorCol + 1 = (State.at' lcd 15 0).columns ∧ (State.at' lcd 15 0).ClosesOk 2 ∧
    (0x00#8 : Byte) ∉ escapeBytes := by decide

theorem witness_RowsAreCircular :
    ((State.at' lcd 15 1).initialized = true ∧ (State.at' lcd 15 1).cursorCol + 1 = (State.at' lcd 15 1).columns ∧
      (State.at' lcd 15 1).cursorRow + 1 = (State.at' lcd 15 1).lines ∧ (State.at' lcd 15 1).ClosesOk 2) ∧
    (lcd.initialized = true ∧ lcd.InDomains ∧ (0 : Int) ≤ 255 ∧ (255 : Int) ≤ 255 ∧ (0 : Int) ≤ 2 ∧ (2 : Int) ≤ 255 ∧
      (lcd.lines : Int) ≤ 2 ∧ lcd.ClosesOk 1) := by decide

/-- Two clauses: sixteen spaces and the restore on 16 by 2, and the one-line case at column 0. -/
theorem witness_ClearToEndOfLineCompletes :
    (lcd.initialized = true ∧ lcd.cursorCol < lcd.columns ∧ lcd.cursorRow < lcd.lines ∧
      lcd.ClosesOk (lcd.columns - lcd.cursorCol + 1 + 1)) ∧
    ((demo 4 1).initialized = true ∧ (demo 4 1).cursorCol < (demo 4 1).columns ∧ (demo 4 1).cursorRow < (demo 4 1).lines ∧
      ((demo 4 1).lines = 1 ∧ (demo 4 1).cursorCol = 0) ∧ (demo 4 1).ClosesOk (4 - 0 + 1 + 0)) := by decide

theorem witness_CreateCharCompletes : lcd.initialized = true ∧ (0 : Int) ≤ 255 ∧ (255 : Int) ≤ 255 ∧
    (List.replicate 8 0x1F#8).length = 8 ∧ lcd.ClosesOk 9 := by decide

theorem witness_SetBacklightStoresAndSends : (lcd.initialized = true ∧ (-32768 : Int) ≤ -32768 ∧ (-32768 : Int) ≤ 32767 ∧
      lcd.ClosesOk 1) ∧
    ((failing 0 lcd).initialized = true ∧ (-32768 : Int) ≤ 32767 ∧ (32767 : Int) ≤ 32767 ∧ (failing 0 lcd).answerAt 0 = false) := by
  decide

theorem witness_WriteApartFromReinitNeverConsultsTheModes : (0x00#8 : Byte) ≠ 0x01#8 ∧ ∃ t, exec (.write 0x00#8) lcd = .next t :=
  ⟨by decide, _, rfl⟩

theorem witness_HostOperationsAreRefusedBeforeInitialize : (Instr.write 0x41#8).fromHost = true ∧
    (∀ c l, Instr.write 0x41#8 ≠ .initializeBlock c l) ∧ (fresh false).initialized = false :=
  ⟨by decide, by simp, by decide⟩

theorem witness_InitializeIsRefusedTwiceAndOutOfDomain : lcd.initialized = true ∧ (fresh false).initialized = false ∧
    ¬((1 : Int) ≤ 256 ∧ (256 : Int) ≤ 255 ∧ (1 : Int) ≤ 1 ∧ (1 : Int) ≤ 4) ∧
    ¬((1 : Int) ≤ 16 ∧ (16 : Int) ≤ 255 ∧ (1 : Int) ≤ 5 ∧ (5 : Int) ≤ 4) := by decide

theorem witness_ArgumentsOutOfDomainAreRefused : lcd.initialized = true ∧
    ¬((0 : Int) ≤ 256 ∧ (256 : Int) ≤ 255 ∧ (0 : Int) ≤ 0 ∧ (0 : Int) ≤ 255) ∧ ¬((-32768 : Int) ≤ 32768 ∧ (32768 : Int) ≤ 32767) ∧
    (¬((0 : Int) ≤ -1 ∧ (-1 : Int) ≤ 255) ∧ (List.replicate 8 0#8).length = 8) ∧
    ((0 : Int) ≤ 255 ∧ (255 : Int) ≤ 255 ∧ (List.replicate 7 0#8).length ≠ 8) ∧
    (¬((0 : Int) ≤ 256 ∧ (256 : Int) ≤ 255) ∧ (List.replicate 9 0#8).length ≠ 8) := by decide

theorem witness_RefusalHasNoEffectButItsMark : (Instr.write 0x41#8).fromHost = true ∧ (Instr.initializeBlock 0 0).fromHost = true := by
  decide

theorem witness_BusFailureEndsTheOperation : Instr.reinitialize.fromHost = true ∧ (Instr.charGlyph 0x41#8).fromHost = true := by
  decide

/-- A `createChar` cut at its fifth close, and the glyph wrap cut at its command. -/
theorem witness_AbortedOperationIsCutAtItsFailedClose :
    ((Instr.createChar 0 (List.replicate 8 0#8)).fromHost = true ∧
      (∃ t, exec (.createChar 0 (List.replicate 8 0#8)) (failing 4 lcd) = .next t ∧
        t.results = (failing 4 lcd).results ++ [.raised .busFailure]) ∧
      ∃ u, exec (.createChar 0 (List.replicate 8 0#8)) { failing 4 lcd with busAnswers := List.replicate 9 true, closes := 0 } = .next u ∧
        u.results = (failing 4 lcd).results ++ [.returned none]) ∧
    ((Instr.write 0x5A#8).fromHost = true ∧
      (∃ t, exec (.write 0x5A#8) (failing 1 (State.at' lcd 15 0)) = .next t ∧
        t.results = (failing 1 (State.at' lcd 15 0)).results ++ [.raised .busFailure]) ∧
      ∃ u, exec (.write 0x5A#8) { failing 1 (State.at' lcd 15 0) with busAnswers := [true, true], closes := 0 } = .next u ∧
        u.results = (failing 1 (State.at' lcd 15 0)).results ++ [.returned (some 1)]) :=
  ⟨⟨by decide, ⟨_, rfl, by decide +kernel⟩, _, rfl, by decide +kernel⟩,
    by decide, ⟨_, rfl, by decide +kernel⟩, _, rfl, by decide +kernel⟩

theorem witness_OnlyWriteReturnsAValue : (Instr.write 0x41#8).fromHost = true ∧ ∃ t, exec (.write 0x41#8) lcd = .next t ∧
    t.results = lcd.results ++ [.returned (some 1)] := ⟨by decide, _, rfl, by decide +kernel⟩

theorem witness_FaultAndRefusalMarksAreSticky : ∃ t, step { running [.byte 0x41#8] with busFault := true, refused := true } = .next t :=
  ⟨_, rfl⟩

theorem witness_TraceIsAppendOnly : ∃ t, step (running [.byte 0x41#8]) = .next t := ⟨_, rfl⟩

theorem witness_OnlyTheResetSequenceWaits : runsReset (.write 0x02#8) = false ∧ runsReset .scrollLeft = false ∧
    ∃ t, exec (.write 0x02#8) lcd = .next t := ⟨by decide, by decide, _, rfl⟩

theorem witness_DisplayControlMutatorsFrame :
    Instr.blinkOff ∈ [Instr.displayOn, .displayOff, .cursorOn, .cursorOff, .blinkOn, .blinkOff] ∧ ∃ t, exec .blinkOff lcd = .next t :=
  ⟨by decide, _, rfl⟩

theorem witness_EntryModeMutatorsFrame :
    Instr.autoscrollOff ∈ [Instr.leftToRight, .rightToLeft, .autoscrollOn, .autoscrollOff] ∧ ∃ t, exec .autoscrollOff lcd = .next t :=
  ⟨by decide, _, rfl⟩

theorem witness_CursorOperationsFrame :
    Instr.charLf ∈ [Instr.home, .reinitialize, .charReinit, .charHome, .charClrEol, .charCr, .charLf] ∧
    (∃ t, exec .charLf lcd = .next t) ∧ (∃ t, exec (.setCursor 255 255) lcd = .next t) ∧ ∃ t, exec (.charGlyph 0x41#8) lcd = .next t :=
  ⟨by decide, ⟨_, rfl⟩, ⟨_, rfl⟩, _, rfl⟩

theorem witness_ScrollsAndCreateCharFrame : Instr.scrollLeft ∈ [Instr.scrollLeft, .scrollRight] ∧
    (∃ t, exec .scrollLeft lcd = .next t) ∧ ∃ t, exec (.createChar 1 (List.replicate 8 0#8)) lcd = .next t :=
  ⟨by decide, ⟨_, rfl⟩, _, rfl⟩

theorem witness_BacklightAndInitializeFrame : (∃ t, exec (.setBacklight 32767) lcd = .next t) ∧
    (∃ t, exec (.initializeBlock 255 4) (fresh false) = .next t ∧ t.results ≠ (fresh false).results ++ [.raised .busFailure]) ∧
    ∃ t, exec (.initializeBlock 255 4) (failing 5 (fresh false)) = .next t ∧
      t.results = (failing 5 (fresh false)).results ++ [.raised .busFailure] :=
  ⟨⟨_, rfl⟩, ⟨_, rfl, by decide +kernel⟩, _, rfl, by decide +kernel⟩

theorem witness_TransportFrame : (Instr.send 0x41#8 true).format = .internal ∧ Instr.cmdForceNibble.format = .ctrlCmd ∧
    (Instr.frame 0x4#4 true true true).format = .frame ∧ ∃ t, exec (.send 0x41#8 true) lcd = .next t :=
  ⟨by decide, by decide, by decide, _, rfl⟩

theorem witness_StepKeepsDomains : lcd.InDomains ∧ (State.at' (demo 255 4) 254 3).InDomains ∧ (running [.byte 0x41#8]).InDomains ∧
    ∃ t, step (running [.byte 0x41#8]) = .next t := ⟨by decide, by decide, by decide, _, rfl⟩

theorem witness_StepKeepsTheTraceLegal : (running [.byte 0x41#8]).InDomains ∧ (running [.byte 0x41#8]).HostOnly ∧
    (running [.byte 0x41#8]).TraceConforms ∧ ∃ t, step (running [.byte 0x41#8]) = .next t := ⟨by decide, by decide, rfl, _, rfl⟩

theorem witness_GeometryIsImmutable : (running [.call (.initializeBlock 20 4)]).initialized = true ∧
    ∃ t, step (running [.call (.initializeBlock 20 4)]) = .next t := ⟨by decide, _, rfl⟩

end Sys2Proof.Tests
end

section
/-! PROOFS. What a step runs, every host operation as one `hostOp` (40_display_state.md R110), and what a refusal leaves alone. -/

namespace Sys2Proof.Machine

/-! ## What a step runs -/

/-- A pending call is consumed and run as its operation. -/
theorem step_of_call {s : State} {i : Instr} {rest : List HostInput} (h : s.input = .call i :: rest) :
    step s = exec i (s.setInput rest) := by
  simp only [step, nextInput, h]

/-- A pending byte is consumed and run as the row it decodes to (30_encoding.md R90). -/
theorem step_of_byte {s : State} {b : Byte} {rest : List HostInput} (h : s.input = .byte b :: rest) :
    step s = exec (decodeChar b) (s.setInput rest) := by
  simp only [step, nextInput, h]

/-- With nothing pending the block holds its state (60_exceptions.md R223). -/
theorem step_of_idle {s : State} (h : s.input = []) : step s = .next s := by
  simp only [step, nextInput, h]

/-- A placed word of one byte is the next pending byte. -/
@[simp] theorem State.withFetchWord_input (s : State) (w : Nat) :
    (s.withFetchWord 8 w).input = .byte (BitVec.ofNat 8 w) :: s.input := rfl

/-- Consuming a placed word gives back the state it was placed in. -/
@[simp] theorem State.setInput_withFetchWord (s : State) (nbits w : Nat) : (s.withFetchWord nbits w).setInput s.input = s := rfl

/-- A table word of one byte is read as an input byte of `write` (log entry 12). -/
theorem decodeTableWord_oneByte (w : Nat) : decodeTableWord 8 w = some (decodeChar (BitVec.ofNat 8 w)) := rfl

/-- Settles O2: each form of the next input has its own equation for `step`, and a placed word is a pending byte. -/
theorem stepRunsNextHostInput : Obligations.StepRunsNextHostInput := by
  refine ⟨fun _ _ _ => step_of_call, fun _ _ _ => step_of_byte, fun _ => step_of_idle, fun s w _ => ?_,
    fun w _ => decodeTableWord_oneByte w⟩
  rw [step_of_byte (s.withFetchWord_input w), State.setInput_withFetchWord]

/-! ## Every host operation as one `hostOp` -/

/-- A preorder on states that holds across a transaction, a wait and every named update the body or the draw of a host operation
makes. The sticky flags, the outcomes and the pending inputs are written by none of these. -/
structure OpRel (R : State → State → Prop) : Prop extends BusRel R where
  waits : ∀ s us, R s (wait us s)
  cursorPos : ∀ s c r, R s (s.setCursorPos c r)
  entryMode : ∀ s v, R s (s.setEntryMode v)
  displayControl : ∀ s v, R s (s.setDisplayControl v)
  backlightLevel : ∀ s v, R s (s.setBacklightLevel v)
  geometry : ∀ s c l, R s (s.setGeometry c l)
  initialized : ∀ s, R s s.setInitialized
  countDraws : ∀ s n, R s (s.countDraws n)

namespace OpRel

variable {R : State → State → Prop}

theorem mutateDisplayControl (h : OpRel R) (f : Byte → Byte) (s : State) : (mutateDisplayControl f s).All (R s) :=
  h.before (h.displayControl _ _) (h.command _ _)

theorem mutateEntryMode (h : OpRel R) (f : Byte → Byte) (s : State) : (mutateEntryMode f s).All (R s) :=
  h.before (h.entryMode _ _) (h.command _ _)

theorem setBacklightBody (h : OpRel R) (level : Int) (s : State) : (setBacklightBody level s).All (R s) :=
  h.before (h.backlightLevel _ _) (h.command _ _)

theorem warmReset (h : OpRel R) (s : State) : (reinitialize s).All (R s) := h.reinitialize h.cursorPos h.waits s

theorem initializeBody (h : OpRel R) (c l : Nat) (s : State) : (initializeBody c l s).All (R s) :=
  have hmodes := h.trans (h.geometry s c l) (h.trans (h.entryMode _ _) (h.displayControl _ _))
  h.before (h.trans hmodes (h.initialized _)) (h.warmReset _)

theorem drawCursor (h : OpRel R) (s : State) : R s (drawCursor s) := h.trans (h.cursorPos _ _ _) (h.countDraws _ _)

theorem drawEntryMode (h : OpRel R) (s : State) : R s (drawEntryMode s) := h.trans (h.entryMode _ _) (h.countDraws _ _)

theorem drawDisplayControl (h : OpRel R) (s : State) : R s (drawDisplayControl s) :=
  h.trans (h.displayControl _ _) (h.countDraws _ _)

theorem drawBacklight (h : OpRel R) (s : State) : R s (drawBacklight s) := h.trans (h.backlightLevel _ _) (h.countDraws _ _)

theorem drawGeometry (h : OpRel R) (s : State) : R s (drawGeometry s) := h.trans (h.geometry _ _ _) (h.countDraws _ _)

theorem drawInitialize (h : OpRel R) (s : State) : R s (drawInitialize s) :=
  have hmodes := h.trans (h.drawEntryMode _) (h.drawDisplayControl _)
  h.trans (h.trans (h.drawBacklight s) (h.drawGeometry _)) (h.trans hmodes (h.drawCursor _))

/-- Every host operation is one `hostOp` that returns the count of `write` or nothing (42_character_sink.md R181), and `R` holds
across its body, however that ends, and across its draw. -/
theorem exec_eq_hostOp (h : OpRel R) {i : Instr} (hi : i.fromHost = true) :
    ∃ (check : State → Option Refusal) (draw : State → State) (body : State → Run),
      (∀ s, exec i s = .next (hostOp check draw (if returnsCount i then some 1 else none) body s)) ∧
      (∀ s, (body s).All (R s)) ∧ (∀ s, R s (draw s)) := by
  have hmove := h.setCursor h.cursorPos
  cases i with
  | initializeBlock c l => exact ⟨_, _, _, fun _ => rfl, h.initializeBody _ _, h.drawInitialize⟩
  | reinitialize | charReinit => exact ⟨_, _, _, fun _ => rfl, h.warmReset, h.drawCursor⟩
  | home | charHome => exact ⟨_, _, _, fun _ => rfl, hmove 0 0, h.drawCursor⟩
  | setCursor col row => exact ⟨_, _, _, fun _ => rfl, hmove _ _, h.drawCursor⟩
  | displayOn | displayOff | cursorOn | cursorOff | blinkOn | blinkOff =>
    exact ⟨_, _, _, fun _ => rfl, h.mutateDisplayControl _, h.drawDisplayControl⟩
  | leftToRight | rightToLeft | autoscrollOn | autoscrollOff =>
    exact ⟨_, _, _, fun _ => rfl, h.mutateEntryMode _, h.drawEntryMode⟩
  | scrollLeft | scrollRight => exact ⟨_, _, _, fun _ => rfl, h.command _, h.refl⟩
  | setBacklight level => exact ⟨_, _, _, fun _ => rfl, h.setBacklightBody level, h.drawBacklight⟩
  | createChar slot p => exact ⟨_, _, _, fun _ => rfl, h.createChar _ p, h.refl⟩
  | write ch => exact ⟨_, _, _, fun _ => rfl, h.write h.cursorPos h.waits ch, h.drawCursor⟩
  | charClrEol => exact ⟨_, _, _, fun _ => rfl, h.clearToEol h.cursorPos, h.drawCursor⟩
  | charCr => exact ⟨_, _, _, fun _ => rfl, fun s => hmove 0 s.cursorRow s, h.drawCursor⟩
  | charLf => exact ⟨_, _, _, fun _ => rfl, fun s => hmove s.cursorCol (s.cursorRow + 1) s, h.drawCursor⟩
  | charGlyph c => exact ⟨_, _, _, fun _ => rfl, h.glyph h.cursorPos c, h.drawCursor⟩
  | _ => exact nomatch hi

end OpRel

/-! ## The refusal mark and the outcomes -/

/-- The refused mark and the outcomes are the same in both states. -/
def SameMark (s t : State) : Prop := t.refused = s.refused ∧ t.results = s.results

/-- Only the refusal, the failure and the completion of `hostOp` write the mark or the outcomes: no body and no draw does. -/
theorem SameMark.opRel : OpRel SameMark where
  refl _ := ⟨rfl, rfl⟩
  trans := fun ⟨hm, ho⟩ ⟨hm', ho'⟩ => ⟨hm'.trans hm, ho'.trans ho⟩
  tx _ _ _ _ _ := ⟨rfl, rfl⟩
  waits _ _ := ⟨rfl, rfl⟩
  cursorPos _ _ _ := ⟨rfl, rfl⟩
  entryMode _ _ := ⟨rfl, rfl⟩
  displayControl _ _ := ⟨rfl, rfl⟩
  backlightLevel _ _ := ⟨rfl, rfl⟩
  geometry _ _ _ := ⟨rfl, rfl⟩
  initialized _ := ⟨rfl, rfl⟩
  countDraws _ _ := ⟨rfl, rfl⟩

/-- A bus failure leaves the mark and adds the failure to the outcomes. -/
theorem busFailure_mark {draw : State → State} (hd : ∀ s, SameMark s (draw s)) (s : State) :
    (busFailure draw s).refused = s.refused ∧ (busFailure draw s).results = s.results ++ [.raised .busFailure] := by
  obtain ⟨hmark, hresults⟩ := hd s.setBusFault
  exact ⟨hmark, congrArg (· ++ [_]) hresults⟩

/-- A `hostOp` whose body and draw leave the mark and the outcomes alone gives one outcome: a refusal is `turnedAway`, any other
outcome leaves the mark. -/
theorem hostOp_oneOutcome {check : State → Option Refusal} {draw : State → State} {ret : Option Nat} {body : State → Run}
    {s : State} (hb : (body s).All (SameMark s)) (hd : ∀ s, SameMark s (draw s)) :
    ∃ o, (hostOp check draw ret body s).results = s.results ++ [o] ∧
      (∀ r, o = .refused r → hostOp check draw ret body s = s.turnedAway r) ∧
      ((∀ r, o ≠ .refused r) → (hostOp check draw ret body s).refused = s.refused) := by
  rcases hostOp_cases check draw ret body s with ⟨r, -, e⟩ | ⟨-, t, hbody, e⟩ | ⟨-, t, hbody, e⟩ <;> rw [e]
  · exact ⟨.refused r, rfl, fun _ hr => by cases hr; rfl, fun hn => absurd rfl (hn r)⟩
  · obtain ⟨hmark, hresults⟩ : SameMark s t := by rwa [hbody] at hb
    exact ⟨.returned ret, by simp [hresults], nofun, fun _ => hmark⟩
  · obtain ⟨hmark, hresults⟩ : SameMark s t := by rwa [hbody] at hb
    obtain ⟨hmark', hresults'⟩ := busFailure_mark hd t
    exact ⟨.raised .busFailure, by rw [hresults', hresults], nofun, fun _ => hmark'.trans hmark⟩

/-- Settles O44: every host operation is one `hostOp`, and neither its body nor its draw writes the mark or the outcomes. -/
theorem refusalHasNoEffectButItsMark : Obligations.RefusalHasNoEffectButItsMark := by
  intro i s hi
  obtain ⟨check, draw, body, hexec, hbody, hdraw⟩ := SameMark.opRel.exec_eq_hostOp hi
  obtain ⟨o, ho⟩ := hostOp_oneOutcome (hbody s) hdraw
  exact ⟨_, o, hexec s, ho⟩

end Sys2Proof.Machine
end

section
/-! PROOFS. The state at construction, the refusal of every other host operation before the geometry is set, and the whole-machine
invariants of 10_state.md: sticky marks, immutable geometry, domains. One relation is carried through every instruction once
(`StepRel.step`); each invariant is a case of it. -/

namespace Sys2Proof.Machine

/-! ## The state at construction -/

/-- Settles O1: each field's value at construction is the one `State.reset` writes. -/
theorem resetHoldsConstructionValues : Obligations.ResetHoldsConstructionValues := ⟨rfl, rfl, rfl, rfl, rfl, rfl⟩

/-- Settles O56: the domains other than the level's are asked of an initialized state only, nothing is pending, and the empty trace
is read from `Config.initLastRS`. -/
theorem resetIsInDomainsAndConforms : Obligations.ResetIsInDomainsAndConforms :=
  ⟨⟨nofun, by decide, by decide⟩, rfl, rfl⟩

/-! ## The checks -/

/-- Before the device is initialized `createChar` is refused for that reason, whatever its arguments (log entry 18). -/
theorem checkCreateChar_of_not {s : State} (h : s.initialized = false) (slot : Int) (p : List Byte) :
    checkCreateChar slot p s = some .notInitialized := by
  simp [checkCreateChar, h]

/-- An operation with bounded arguments runs only if they lie in their domains. -/
theorem checkArguments_eq_none {ok : Bool} {s : State} (h : checkArguments ok s = none) : ok = true := by
  cases hs : s.initialized with
  | false => simp [checkArguments_of_not hs] at h
  | true => simpa [checkArguments_of_initialized hs] using h

/-- A second call is refused (10_state.md R29). -/
theorem checkInitialize_of_initialized {s : State} (h : s.initialized = true) (c l : Int) :
    checkInitialize c l s = some .alreadyInitialized := if_pos h

/-- The geometry is set only to one in its domain (10_state.md R22). -/
theorem checkInitialize_eq_none {c l : Int} {s : State} (h : checkInitialize c l s = none) :
    1 ≤ c ∧ c ≤ 255 ∧ 1 ≤ l ∧ l ≤ 4 := by
  rw [← geometryInDomain_iff]
  cases hs : s.initialized with
  | false => simpa [checkInitialize, hs] using h
  | true => rw [checkInitialize_of_initialized hs] at h; cases h

/-- The outcome of a refused operation. -/
theorem next_hostOp_refused {check : State → Option Refusal} {draw : State → State} {ret : Option Nat} {body : State → Run}
    {s : State} {r : Refusal} (hc : check s = some r) :
    (.next (hostOp check draw ret body s) : Host.Outcome State Fault Refusal) = .next (s.turnedAway r) :=
  congrArg _ (hostOp_refused draw ret body hc)

/-- Settles O41: each check answers NotInitialized before it looks at an argument. -/
theorem hostOperationsAreRefusedBeforeInitialize : Obligations.HostOperationsAreRefusedBeforeInitialize := by
  intro i s hi hne hs
  cases i with
  | initializeBlock c l => exact absurd rfl (hne c l)
  | setCursor | setBacklight => exact next_hostOp_refused (checkArguments_of_not hs _)
  | createChar => exact next_hostOp_refused (checkCreateChar_of_not hs _ _)
  | reinitialize | home | displayOn | displayOff | cursorOn | cursorOff | blinkOn | blinkOff | leftToRight | rightToLeft
  | autoscrollOn | autoscrollOff | scrollLeft | scrollRight | write | charReinit | charHome | charClrEol | charCr | charLf
  | charGlyph => exact next_hostOp_refused (checkInitialized_of_not hs)
  | _ => exact nomatch hi

/-! ## The mode bits -/

/-- Setting a flag adds no bit above those of the flag and of the value. -/
theorem withFlag_toNat_lt {m v : Byte} {k : Nat} (hm : m.toNat < 2 ^ k) (hv : v.toNat < 2 ^ k) : (withFlag m v).toNat < 2 ^ k := by
  rw [withFlag, BitVec.toNat_or]
  exact Nat.or_lt_two_pow hv hm

/-- Clearing a flag makes no value larger. -/
theorem withoutFlag_toNat_le (m v : Byte) : (withoutFlag m v).toNat ≤ v.toNat := by
  rw [withoutFlag, BitVec.toNat_and]
  exact Nat.and_le_left

/-- A free value brought below a bound is below it as a byte too. -/
theorem trunc8_mod_toNat_lt (n : Nat) {k : Nat} (hk : 0 < k) : (trunc8 (n % k)).toNat < k := by
  rw [trunc8, BitVec.toNat_ofNat]
  exact (Nat.mod_le _ _).trans_lt (Nat.mod_lt _ hk)

/-! ## A relation across one step -/

/-- A preorder on states that holds across every event and every named update an instruction makes, with what the instructions
ensure of the value written: a cursor wrapped to the geometry or one column short of its end, mode bits below the reserved ones, a
level in its domain. What sets the geometry is left to `StepRel.step`. -/
structure StepRel (R : State → State → Prop) : Prop extends BusRel R where
  emits : ∀ s e, R s (s.emit e)
  lastRS : ∀ s v, R s (s.setLastRS v)
  wrappedCursor : ∀ s c r, R s (s.setCursorPos (c % s.columns) (r % s.lines))
  nextColumn : ∀ s, s.cursorCol + 1 ≠ s.columns → R s (s.setCursorPos (s.cursorCol + 1) s.cursorRow)
  entryMode : ∀ s v, (s.entryMode.toNat < 4 → v.toNat < 4) → R s (s.setEntryMode v)
  displayControl : ∀ s v, (s.displayControl.toNat < 8 → v.toNat < 8) → R s (s.setDisplayControl v)
  backlightLevel : ∀ s v, -32768 ≤ v ∧ v ≤ 32767 → R s (s.setBacklightLevel v)
  busFault : ∀ s, R s s.setBusFault
  refused : ∀ s, R s s.setRefused
  outcome : ∀ s o, R s (s.pushOutcome o)
  input : ∀ s i, R s (s.setInput i)
  countDraws : ∀ s n, R s (s.countDraws n)

namespace StepRel

variable {R : State → State → Prop}

/-! ### Bodies -/

theorem writeNibble (h : StepRel R) (n : Nibble) (d : Bool) (s : State) : R s (writeNibble n d s) := by
  have strobe (u : State) (x y : Byte) : R u (txByte y (txByte x u)) := h.trans (h.emits _ _) (h.emits _ _)
  unfold Machine.writeNibble
  dsimp only
  split
  · exact h.trans (h.trans (h.emits _ _) (h.lastRS _ _)) (strobe _ _ _)
  · exact strobe _ _ _

theorem setCursor (h : StepRel R) (c r : Nat) (s : State) : (setCursor c r s).All (R s) := by
  rw [setCursor_eq]
  split
  · exact h.refl s
  · exact h.before (h.wrappedCursor _ _ _) (h.command _ _)

theorem glyph (h : StepRel R) (ch : Byte) (s : State) : (glyph ch s).All (R s) := by
  refine h.bind (h.send _ _ _) fun t => ?_
  dsimp only
  split
  · exact h.setCursor _ _ _
  · next hne => exact h.nextColumn t hne

theorem fillSpaces (h : StepRel R) (k : Nat) (s : State) : (fillSpaces k s).All (R s) := by
  induction k generalizing s with
  | zero => exact h.refl s
  | succ k ih => exact h.bind (h.glyph _ _) ih

theorem clearToEol (h : StepRel R) (s : State) : (clearToEol s).All (R s) :=
  h.bind (h.fillSpaces _ _) (h.setCursor _ _)

/-- The reset's cursor is the wrapped (0, 0), whatever the geometry. -/
theorem originCursor (h : StepRel R) (s : State) : R s (s.setCursorPos 0 0) := by
  simpa using h.wrappedCursor s 0 0

theorem reinitialize (h : StepRel R) (s : State) : (reinitialize s).All (R s) := by
  refine h.bind (h.command _ _) fun _ => h.bind (h.sendNibble _ _) fun _ => ?_
  refine h.bind (h.before (h.emits _ _) (h.command _ _)) fun _ => h.bind (h.command _ _) fun _ => ?_
  exact h.bind (h.command _ _) fun _ => h.bind (h.command _ _) fun _ => h.trans (h.emits _ _) (h.originCursor _)

theorem writeBody (h : StepRel R) (ch : Byte) (s : State) : (writeBody ch s).All (R s) := by
  unfold Machine.writeBody
  repeat' split
  · exact h.reinitialize s
  · exact h.setCursor _ _ s
  · exact h.clearToEol s
  · exact h.setCursor _ _ s
  · exact h.setCursor _ _ s
  · exact h.glyph ch s

theorem mutateEntryMode_on (h : StepRel R) {m : Byte} (hm : m.toNat < 2 ^ 2) (s : State) :
    (mutateEntryMode (withFlag m) s).All (R s) :=
  h.before (h.entryMode _ _ (withFlag_toNat_lt hm)) (h.command _ _)

theorem mutateEntryMode_off (h : StepRel R) (m : Byte) (s : State) : (mutateEntryMode (withoutFlag m) s).All (R s) :=
  h.before (h.entryMode _ _ (withoutFlag_toNat_le m _).trans_lt) (h.command _ _)

theorem mutateDisplayControl_on (h : StepRel R) {m : Byte} (hm : m.toNat < 2 ^ 3) (s : State) :
    (mutateDisplayControl (withFlag m) s).All (R s) :=
  h.before (h.displayControl _ _ (withFlag_toNat_lt hm)) (h.command _ _)

theorem mutateDisplayControl_off (h : StepRel R) (m : Byte) (s : State) : (mutateDisplayControl (withoutFlag m) s).All (R s) :=
  h.before (h.displayControl _ _ (withoutFlag_toNat_le m _).trans_lt) (h.command _ _)

/-! ### Draws (60_exceptions.md R213) -/

theorem drawCursor (h : StepRel R) (s : State) : R s (drawCursor s) := h.trans (h.wrappedCursor _ _ _) (h.countDraws _ _)

theorem drawEntryMode (h : StepRel R) (s : State) : R s (drawEntryMode s) :=
  h.trans (h.entryMode _ _ fun _ => trunc8_mod_toNat_lt _ (by decide)) (h.countDraws _ _)

theorem drawDisplayControl (h : StepRel R) (s : State) : R s (drawDisplayControl s) :=
  h.trans (h.displayControl _ _ fun _ => trunc8_mod_toNat_lt _ (by decide)) (h.countDraws _ _)

theorem drawBacklight (h : StepRel R) (s : State) : R s (drawBacklight s) :=
  h.trans (h.backlightLevel _ _ (drawBacklight_inDomain s)) (h.countDraws _ _)

/-! ### Running an operation -/

/-- A host operation keeps what its draw keeps and, once its checks pass, its body. -/
theorem hostOp (h : StepRel R) {check : State → Option Refusal} {draw : State → State} {ret : Option Nat} {body : State → Run}
    {s : State} (hd : ∀ t, R t (draw t)) (hb : check s = none → (body s).All (R s)) : R s (hostOp check draw ret body s) := by
  have hrefused (t : State) (r : Refusal) : R t (t.turnedAway r) := h.trans (h.refused t) (h.outcome _ _)
  have hfailed (t : State) : R t (busFailure draw t) := h.trans (h.trans (h.busFault t) (hd _)) (h.outcome _ _)
  cases hc : check s with
  | some r => rw [hostOp_refused draw ret body hc]; exact hrefused s r
  | none => exact h.toBusRel.hostOp (hb hc) hfailed hrefused fun _ _ => h.outcome _ _

/-- An operation of the transport keeps what its body keeps. -/
theorem internalOp (h : StepRel R) {body : State → Run} {s : State} (hb : (body s).All (R s)) : R s (internalOp body s) := by
  rcases internalOp_cases body s with ⟨t, e, e'⟩ | ⟨t, e, e'⟩ <;> rw [e'] <;> rw [e] at hb
  · exact hb
  · exact h.trans hb (h.busFault t)

/-- The relation holds across every instruction, if it does across the one that sets the geometry. -/
theorem exec (h : StepRel R) (hgeometry : ∀ c l s t, execInitializeBlock c l s = .next t → R s t) {i : Instr} {s t : State}
    (e : exec i s = .next t) : R s t := by
  suffices (∃ c l, i = .initializeBlock c l) ∨ ∃ u, Machine.exec i s = .next u ∧ R s u by
    obtain ⟨c, l, rfl⟩ | ⟨u, hu, hR⟩ := this
    · exact hgeometry c l s t e
    · cases hu.symm.trans e; exact hR
  cases i with
  | initializeBlock c l => exact .inl ⟨c, l, rfl⟩
  | reinitialize | charReinit => exact .inr ⟨_, rfl, h.hostOp h.drawCursor fun _ => h.reinitialize s⟩
  | home | setCursor | charHome | charCr | charLf => exact .inr ⟨_, rfl, h.hostOp h.drawCursor fun _ => h.setCursor _ _ s⟩
  | displayOn | cursorOn | blinkOn =>
    exact .inr ⟨_, rfl, h.hostOp h.drawDisplayControl fun _ => h.mutateDisplayControl_on (by decide) s⟩
  | displayOff | cursorOff | blinkOff =>
    exact .inr ⟨_, rfl, h.hostOp h.drawDisplayControl fun _ => h.mutateDisplayControl_off _ s⟩
  | leftToRight | autoscrollOn => exact .inr ⟨_, rfl, h.hostOp h.drawEntryMode fun _ => h.mutateEntryMode_on (by decide) s⟩
  | rightToLeft | autoscrollOff => exact .inr ⟨_, rfl, h.hostOp h.drawEntryMode fun _ => h.mutateEntryMode_off _ s⟩
  | scrollLeft | scrollRight => exact .inr ⟨_, rfl, h.hostOp h.refl fun _ => h.command _ s⟩
  | setBacklight level =>
    have hbody (hc : checkArguments (levelInDomain level) s = none) : (setBacklightBody level s).All (R s) :=
      h.before (h.backlightLevel _ _ ((levelInDomain_iff level).mp (checkArguments_eq_none hc))) (h.command _ _)
    exact .inr ⟨_, rfl, h.hostOp h.drawBacklight hbody⟩
  | createChar slot p => exact .inr ⟨_, rfl, h.hostOp h.refl fun _ => h.createChar _ p s⟩
  | write ch => exact .inr ⟨_, rfl, h.hostOp h.drawCursor fun _ => h.writeBody ch s⟩
  | charClrEol => exact .inr ⟨_, rfl, h.hostOp h.drawCursor fun _ => h.clearToEol s⟩
  | charGlyph ch => exact .inr ⟨_, rfl, h.hostOp h.drawCursor fun _ => h.glyph ch s⟩
  | cmdForceNibble | sendNibble => exact .inr ⟨_, rfl, h.internalOp (h.sendNibble _ s)⟩
  | frame => exact .inr ⟨_, rfl, h.emits s _⟩
  | writeNibble n d => exact .inr ⟨_, rfl, h.writeNibble n d s⟩
  | cmdClear | cmdEntryModeSet | cmdDisplayControl | cmdDisplayShift | cmdFunctionSet | cmdSetCgramAddr | cmdSetDdramAddr | cmdNull
  | send => exact .inr ⟨_, rfl, h.internalOp (h.send _ _ s)⟩

/-- The relation holds across every step, if it does across the instruction that sets the geometry. -/
theorem step (h : StepRel R) (hgeometry : ∀ c l s t, execInitializeBlock c l s = .next t → R s t) {s t : State}
    (e : step s = .next t) : R s t := by
  obtain ⟨-, rfl⟩ | ⟨i, rest, -, e⟩ := step_cases e
  · exact h.refl t
  · exact h.trans (h.input s rest) (h.exec hgeometry e)

end StepRel

/-! ## Sticky marks (10_state.md R33) -/

/-- A mark set in the first state is set in the second. -/
def KeepsMarks (s t : State) : Prop := (s.busFault = true → t.busFault = true) ∧ (s.refused = true → t.refused = true)

/-- The marks are written by the failure and the refusal only, which set them. -/
theorem KeepsMarks.stepRel : StepRel KeepsMarks where
  refl _ := ⟨id, id⟩
  trans := fun ⟨hf, hr⟩ ⟨hf', hr'⟩ => ⟨hf' ∘ hf, hr' ∘ hr⟩
  tx _ _ _ _ _ := ⟨id, id⟩
  emits _ _ := ⟨id, id⟩
  lastRS _ _ := ⟨id, id⟩
  wrappedCursor _ _ _ := ⟨id, id⟩
  nextColumn _ _ := ⟨id, id⟩
  entryMode _ _ _ := ⟨id, id⟩
  displayControl _ _ _ := ⟨id, id⟩
  backlightLevel _ _ _ := ⟨id, id⟩
  busFault _ := ⟨fun _ => rfl, id⟩
  refused _ := ⟨id, fun _ => rfl⟩
  outcome _ _ := ⟨id, id⟩
  input _ _ := ⟨id, id⟩
  countDraws _ _ := ⟨id, id⟩

/-- Settles O47: the marks are kept across every event and update, those that set the geometry among them. -/
theorem faultAndRefusalMarksAreSticky : Obligations.FaultAndRefusalMarksAreSticky := by
  intro s t
  refine KeepsMarks.stepRel.step fun c l s t e => ?_
  cases e
  exact KeepsMarks.stepRel.hostOp (fun _ => ⟨id, id⟩) fun _ =>
    KeepsMarks.stepRel.before ⟨id, id⟩ (KeepsMarks.stepRel.reinitialize _)

/-! ## Immutable geometry (10_state.md R22, R29) -/

/-- If the first state is initialized, the second is, with the same geometry. -/
def KeepsGeometry (s t : State) : Prop := s.initialized = true → t.initialized = true ∧ t.columns = s.columns ∧ t.lines = s.lines

/-- No update but those of `initializeBlock` writes the geometry or `initialized`. -/
theorem KeepsGeometry.stepRel : StepRel KeepsGeometry where
  refl _ := fun hs => ⟨hs, rfl, rfl⟩
  trans := fun h h' hs =>
    let ⟨ht, hc, hl⟩ := h hs
    let ⟨hu, hc', hl'⟩ := h' ht
    ⟨hu, hc'.trans hc, hl'.trans hl⟩
  tx _ _ _ _ _ := fun hs => ⟨hs, rfl, rfl⟩
  emits _ _ := fun hs => ⟨hs, rfl, rfl⟩
  lastRS _ _ := fun hs => ⟨hs, rfl, rfl⟩
  wrappedCursor _ _ _ := fun hs => ⟨hs, rfl, rfl⟩
  nextColumn _ _ := fun hs => ⟨hs, rfl, rfl⟩
  entryMode _ _ _ := fun hs => ⟨hs, rfl, rfl⟩
  displayControl _ _ _ := fun hs => ⟨hs, rfl, rfl⟩
  backlightLevel _ _ _ := fun hs => ⟨hs, rfl, rfl⟩
  busFault _ := fun hs => ⟨hs, rfl, rfl⟩
  refused _ := fun hs => ⟨hs, rfl, rfl⟩
  outcome _ _ := fun hs => ⟨hs, rfl, rfl⟩
  input _ _ := fun hs => ⟨hs, rfl, rfl⟩
  countDraws _ _ := fun hs => ⟨hs, rfl, rfl⟩

/-- Settles O59: the one instruction that sets the geometry is refused once it has run. -/
theorem geometryIsImmutable : Obligations.GeometryIsImmutable := by
  intro s t hs e
  refine KeepsGeometry.stepRel.step (fun c l s t e hs => ?_) e hs
  cases e
  rw [hostOp_refused _ _ _ (checkInitialize_of_initialized hs c l)]
  exact ⟨hs, rfl, rfl⟩

/-! ## Domains (10_state.md R22 to R26) -/

/-- If the first state is in its domains, so is the second. -/
def KeepsDomains (s t : State) : Prop := s.InDomains → t.InDomains

/-- A cursor moved within the geometry keeps the domains. -/
theorem State.InDomains.setCursorPos {s : State} {c r : Nat} (hs : s.InDomains)
    (hc : 0 < s.columns → s.cursorCol < s.columns → c < s.columns)
    (hr : 0 < s.lines → s.cursorRow < s.lines → r < s.lines) : (s.setCursorPos c r).InDomains := by
  obtain ⟨hdisplay, hlevel⟩ := hs
  refine ⟨fun hi => ?_, hlevel⟩
  obtain ⟨hcolumns, hlines, hem, hdc, hcol, hrow⟩ := hdisplay hi
  exact ⟨hcolumns, hlines, hem, hdc, hc hcolumns.1 hcol, hr hlines.1 hrow⟩

/-- A new entry mode without reserved bits keeps the domains. -/
theorem State.InDomains.setEntryMode {s : State} {v : Byte} (hs : s.InDomains) (hv : s.entryMode.toNat < 4 → v.toNat < 4) :
    (s.setEntryMode v).InDomains := by
  obtain ⟨hdisplay, hlevel⟩ := hs
  refine ⟨fun hi => ?_, hlevel⟩
  obtain ⟨hcolumns, hlines, hem, hrest⟩ := hdisplay hi
  exact ⟨hcolumns, hlines, hv hem, hrest⟩

/-- A new display control without reserved bits keeps the domains. -/
theorem State.InDomains.setDisplayControl {s : State} {v : Byte} (hs : s.InDomains)
    (hv : s.displayControl.toNat < 8 → v.toNat < 8) : (s.setDisplayControl v).InDomains := by
  obtain ⟨hdisplay, hlevel⟩ := hs
  refine ⟨fun hi => ?_, hlevel⟩
  obtain ⟨hcolumns, hlines, hem, hdc, hcursor⟩ := hdisplay hi
  exact ⟨hcolumns, hlines, hem, hv hdc, hcursor⟩

/-- Every update keeps the domains: the cursor is wrapped, or advances short of the last column. -/
theorem KeepsDomains.stepRel : StepRel KeepsDomains where
  refl _ := id
  trans h h' := h' ∘ h
  tx _ _ _ _ _ := id
  emits _ _ := id
  lastRS _ _ := id
  wrappedCursor _ _ _ := fun hs => hs.setCursorPos (fun hpos _ => Nat.mod_lt _ hpos) fun hpos _ => Nat.mod_lt _ hpos
  nextColumn _ hne := fun hs => hs.setCursorPos (fun _ hcol => Nat.lt_of_le_of_ne hcol hne) fun _ hrow => hrow
  entryMode _ _ hv := fun hs => hs.setEntryMode hv
  displayControl _ _ hv := fun hs => hs.setDisplayControl hv
  backlightLevel _ _ hv := fun ⟨hdisplay, _⟩ => ⟨hdisplay, hv⟩
  busFault _ := id
  refused _ := id
  outcome _ _ := id
  input _ _ := id
  countDraws _ _ := id

/-- A draw of every field puts any state into its domains (60_exceptions.md R213). -/
theorem drawInitialize_inDomains (s : State) : (drawInitialize s).InDomains := by
  have hcolumns : Config.freeNat (s.draws + 1) % 255 < 255 := Nat.mod_lt _ (by decide)
  have hlines : Config.freeNat (s.draws + 1 + 1) % 4 < 4 := Nat.mod_lt _ (by decide)
  refine ⟨fun _ => ⟨⟨Nat.succ_pos _, hcolumns⟩, ⟨Nat.succ_pos _, hlines⟩, trunc8_mod_toNat_lt _ (by decide),
    trunc8_mod_toNat_lt _ (by decide), ?_⟩, drawBacklight_inDomain s⟩
  exact drawCursor_inGeometry (Nat.succ_pos _) (Nat.succ_pos _)

/-- Every field of the DisplayState but the cursor, and the level, are the same in both states. -/
def SameSettings (s t : State) : Prop :=
  t.initialized = s.initialized ∧ t.columns = s.columns ∧ t.lines = s.lines ∧ t.entryMode = s.entryMode ∧
  t.displayControl = s.displayControl ∧ t.backlightLevel = s.backlightLevel

theorem SameSettings.busRel : BusRel SameSettings where
  refl _ := ⟨rfl, rfl, rfl, rfl, rfl, rfl⟩
  trans := fun ⟨hi, hc, hl, he, hd, hb⟩ ⟨hi', hc', hl', he', hd', hb'⟩ =>
    ⟨hi'.trans hi, hc'.trans hc, hl'.trans hl, he'.trans he, hd'.trans hd, hb'.trans hb⟩
  tx _ _ _ _ _ := ⟨rfl, rfl, rfl, rfl, rfl, rfl⟩

/-- The reset sequence leaves every setting, however its closes end (40_display_state.md R126). -/
theorem SameSettings.warmReset (s : State) : (Machine.reinitialize s).All (SameSettings s) :=
  SameSettings.busRel.reinitialize (fun _ _ _ => ⟨rfl, rfl, rfl, rfl, rfl, rfl⟩) (fun _ _ => ⟨rfl, rfl, rfl, rfl, rfl, rfl⟩) s

/-- A sequence goes through exactly when both its pieces do. -/
theorem Run.andThen_eq_done_iff {r : Run} {f : State → Run} {t : State} :
    r.andThen f = .done t ↔ ∃ u, r = .done u ∧ f u = .done t := by
  cases r <;> simp

/-- A reset sequence that goes through leaves the cursor at (0, 0) (R126, D14). -/
theorem reinitialize_done_cursor {s t : State} (h : reinitialize s = .done t) : t.cursorCol = 0 ∧ t.cursorRow = 0 := by
  simp only [reinitialize, Run.thenUpdate, Run.andThen_eq_done_iff, Run.done.injEq] at h
  obtain ⟨_, -, _, -, _, -, _, -, _, -, _, -, rfl⟩ := h
  exact ⟨rfl, rfl⟩

/-- An initialization that goes through ends in the domains, wherever the cursor stood before it (R127). -/
theorem initializeBody_inDomains {c l : Nat} {s t : State} (hc : 1 ≤ c ∧ c ≤ 255) (hl : 1 ≤ l ∧ l ≤ 4) (hs : s.InDomains)
    (h : initializeBody c l s = .done t) : t.InDomains := by
  obtain ⟨hcol, hrow⟩ := reinitialize_done_cursor h
  have hsame := SameSettings.warmReset (((s.setGeometry c l).setEntryMode Config.defaultEntry).setDisplayControl
    Config.defaultDC).setInitialized
  rw [show reinitialize _ = .done t from h] at hsame
  obtain ⟨-, hcolumns, hlines, hem, hdc, hlevel⟩ := hsame
  simp only [State.InDomains, hcolumns, hlines, hem, hdc, hlevel, hcol, hrow]
  have hdefaultEntry : Config.defaultEntry.toNat < 4 := by decide
  have hdefaultDC : Config.defaultDC.toNat < 8 := by decide
  exact ⟨fun _ => ⟨hc, hl, hdefaultEntry, hdefaultDC, hc.1, hl.1⟩, hs.2⟩

/-- Settles O57: outside an initialization every update keeps the domains; an initialization stores a checked geometry and ends at
(0, 0), or draws every field. -/
theorem stepKeepsDomains : Obligations.StepKeepsDomains := by
  intro s t hs e
  refine KeepsDomains.stepRel.step (fun c l s t e hs => ?_) e hs
  cases e
  rcases hostOp_cases (checkInitialize c l) drawInitialize none (initializeBody c.toNat l.toNat) s with
    ⟨r, -, e⟩ | ⟨hc, t, hdone, e⟩ | ⟨-, t, -, e⟩ <;> rw [e]
  · exact hs
  · obtain ⟨hc1, hc2, hl1, hl2⟩ := checkInitialize_eq_none hc
    have hcolumns : 1 ≤ c.toNat ∧ c.toNat ≤ 255 := by omega
    have hlines : 1 ≤ l.toNat ∧ l.toNat ≤ 4 := by omega
    have hbody : t.InDomains := initializeBody_inDomains hcolumns hlines hs hdone
    exact hbody
  · exact drawInitialize_inDomains t.setBusFault

end Sys2Proof.Machine
end

section
/-! PROOFS. The trace (20_memory.md R51, R52): no step takes an event back, and every step the host can cause keeps the trace one the
rules allow. The reader of the trace (Machine/Trace.lean) is run over one transaction; what the bodies then need is that each command
they send is one of 30_encoding.md R82, which the domains of the mode bits give (`State.Ready`). -/

namespace Sys2Proof.Machine

/-! ## The draw of a failed initialization -/

/-- A draw of every field leaves the trace, `lastRS` and the pending inputs (60_exceptions.md R213). -/
theorem drawInitialize_bus (s : State) : (drawInitialize s).trace = s.trace ∧ (drawInitialize s).lastRS = s.lastRS ∧
    (drawInitialize s).input = s.input := by
  simp [drawInitialize, drawCursor, drawDisplayControl, drawEntryMode, drawGeometry, drawBacklight]

/-! ## The trace is append-only -/

/-- The second state's trace is the first's with events appended. -/
def ExtendsTrace (s t : State) : Prop := s.trace <+: t.trace

/-- Events are appended, and every other update leaves the trace alone. -/
theorem ExtendsTrace.stepRel : StepRel ExtendsTrace where
  refl _ := List.prefix_rfl
  trans := List.IsPrefix.trans
  tx _ _ _ _ _ := List.prefix_append _ _
  emits _ _ := List.prefix_append _ _
  lastRS _ _ := List.prefix_rfl
  wrappedCursor _ _ _ := List.prefix_rfl
  nextColumn _ _ := List.prefix_rfl
  entryMode _ _ _ := List.prefix_rfl
  displayControl _ _ _ := List.prefix_rfl
  backlightLevel _ _ _ := List.prefix_rfl
  busFault _ := List.prefix_rfl
  refused _ := List.prefix_rfl
  outcome _ _ := List.prefix_rfl
  input _ _ := List.prefix_rfl
  countDraws _ _ := List.prefix_rfl

/-- What an initialization sets before its reset sequence is no event (40_display_state.md R127). -/
theorem ExtendsTrace.initializeBody (c l : Nat) (s : State) : (initializeBody c l s).All (ExtendsTrace s) := by
  have hset : ExtendsTrace s ((((s.setGeometry c l).setEntryMode Config.defaultEntry).setDisplayControl
      Config.defaultDC).setInitialized) := List.prefix_rfl
  exact ExtendsTrace.stepRel.before hset (ExtendsTrace.stepRel.reinitialize _)

theorem ExtendsTrace.drawInitialize (s : State) : ExtendsTrace s (drawInitialize s) := by
  obtain ⟨htrace, -, -⟩ := drawInitialize_bus s
  rw [ExtendsTrace, htrace]

/-- Settles O48: the trace grows across every event and update, those that set the geometry among them. -/
theorem traceIsAppendOnly : Obligations.TraceIsAppendOnly := by
  intro s t e
  have hextends : ExtendsTrace s t := by
    refine ExtendsTrace.stepRel.step (fun c l s t e => ?_) e
    cases e
    exact ExtendsTrace.stepRel.hostOp ExtendsTrace.drawInitialize fun _ => ExtendsTrace.initializeBody _ _ s
  obtain ⟨evs, hevs⟩ := hextends
  exact ⟨evs, hevs.symm⟩

/-! ## The commands the block sends are those of R82 -/

/-- `0x04 | entryMode` is an Entry Mode Set (30_encoding.md R85). -/
theorem knownCommand_entryModeCmd {v : Byte} (h : v.toNat < 4) : knownCommand (entryModeCmd v) = true := by
  have hall : ∀ n < 4, knownCommand (entryModeCmd (BitVec.ofNat 8 n)) = true := by decide
  simpa using hall v.toNat h

/-- `0x08 | displayControl` is a Display Control (R86). -/
theorem knownCommand_displayControlCmd {v : Byte} (h : v.toNat < 8) : knownCommand (displayControlCmd v) = true := by
  have hall : ∀ n < 8, knownCommand (displayControlCmd (BitVec.ofNat 8 n)) = true := by decide
  simpa using hall v.toNat h

/-- Both function sets of the block are rows of R87. -/
theorem knownCommand_functionSetCmd (lines : Nat) : knownCommand (functionSetCmd lines) = true := by
  unfold functionSetCmd
  split <;> decide

/-- A slot taken mod 8 addresses row 0 of a slot (R84). -/
theorem knownCommand_cgramCmd (slot : Nat) : knownCommand (cgramCmd slot) = true := by
  have hall : ∀ k ≤ 7, knownCommand (trunc8 (0x40 ||| (k <<< 3))) = true := by decide
  exact hall _ Nat.and_le_right

/-- Every byte with bit 7 set is a Set DDRAM address (R83): no row before it in the table has that bit. -/
theorem knownCommand_of_bit7 {v : Byte} (h : v.getLsbD 7 = true) : knownCommand v = true := by
  have hne {c : Byte} (hc : c.getLsbD 7 = false) : v ≠ c := fun e => by rw [e, hc] at h; cases h
  have hmask {m c : Byte} (hm : m.getLsbD 7 = true) (hc : c.getLsbD 7 = false) : v &&& m ≠ c := fun e => by
    have hand : (v &&& m).getLsbD 7 = true := by rw [BitVec.getLsbD_and, h, hm]; rfl
    rw [e, hc] at hand; cases hand
  simp [knownCommand, decodeCommand, hne, hmask]

/-- Bit 7 of the cursor command is set whatever the sum below it (40_display_state.md R112). -/
theorem knownCommand_ddramCmd (c r : Nat) : knownCommand (ddramCmd c r) = true :=
  knownCommand_of_bit7 (by simp [ddramCmd, trunc8])

/-! ## The bytes of a transaction -/

/-- The register-select line of a frame is the one it was built with (41_nibble_transport.md R150). -/
theorem rsOf_frameByte (bl : Bool) (n : Nibble) (d : Bool) : rsOf (frameByte bl n d) = d := by
  revert n; cases bl <;> cases d <;> decide

/-- The high half of a frame is its nibble (R150). -/
theorem highNibble_frameByte (bl : Bool) (n : Nibble) (d : Bool) : highNibble (frameByte bl n d) = n := by
  revert n; cases bl <;> cases d <;> decide

/-- The nibble of a frame leaves its control bits alone (R150). -/
theorem frameByte_controlBits (bl : Bool) (n m : Nibble) (d : Bool) :
    frameByte bl n d &&& 0x0F#8 = frameByte bl m d &&& 0x0F#8 := by
  have hzero (k : Nibble) : frameByte bl k d &&& 0x0F#8 = frameByte bl 0 d &&& 0x0F#8 := by
    revert k; cases bl <;> cases d <;> decide
  rw [hzero n, hzero m]

/-- A frame with EN high, then the frame itself, is a strobe with RW = 0 (R151 (c), 30_encoding.md R81). -/
theorem strobePair_frameByte (bl : Bool) (n : Nibble) (d : Bool) :
    strobePair (frameByte bl n d ||| 0x04#8) (frameByte bl n d) = true := by
  revert n; cases bl <;> cases d <;> decide

/-- The strobes of a data byte, or of a known command, are those of one logical byte (R82, R152). -/
theorem bytePairs_frameByte {v : Byte} {d : Bool} (hv : (d || knownCommand v) = true) (bl : Bool) :
    bytePairs (frameByte bl (highNibble v) d ||| 0x04#8) (frameByte bl (highNibble v) d)
      (frameByte bl (lowNibble v) d ||| 0x04#8) (frameByte bl (lowNibble v) d) = true := by
  simp only [bytePairs, strobePair_frameByte, rsOf_frameByte, highNibble_frameByte, joinNibbles_halves, hv,
    frameByte_controlBits bl (highNibble v) (lowNibble v) d, beq_self_eq_true, Bool.and_self]

/-- The strobe of the force nibble (R82, R153). -/
theorem lonePair_frameByte (bl : Bool) :
    lonePair (frameByte bl Config.nibble4bit false ||| 0x04#8) (frameByte bl Config.nibble4bit false) = true := by
  simp only [lonePair, strobePair_frameByte, rsOf_frameByte, highNibble_frameByte, beq_self_eq_true, Bool.not_false, Bool.and_self]

/-- The bytes of a `send` have a pre-write exactly when the register select changes (R94, R155). -/
theorem txBytesLegal_sendBytes {v : Byte} {d : Bool} (hv : (d || knownCommand v) = true) (bl last : Bool) :
    txBytesLegal last (sendBytes bl last v d) = true := by
  by_cases h : d = last
  · subst h; simp [sendBytes, txBytesLegal, rsOf_frameByte, bytePairs_frameByte hv]
  · simp [sendBytes, h, txBytesLegal, rsOf_frameByte, Ne.symm h, bytePairs_frameByte hv]

/-- A `send` leaves the register-select line at its own register select (20_memory.md R63 (a)). -/
theorem sendBytes_lastRS (bl last : Bool) (v : Byte) (d : Bool) :
    ((sendBytes bl last v d).getLast?.map rsOf).getD last = d := by
  by_cases h : d = last <;> simp [sendBytes, h, rsOf_frameByte]

/-- The bytes of the lone force nibble, pre-write exactly after data (R94, R155). -/
theorem txBytesLegal_nibbleBytes (bl last : Bool) : txBytesLegal last (nibbleBytes bl last Config.nibble4bit) = true := by
  cases last <;> simp [nibbleBytes, txBytesLegal, rsOf_frameByte, lonePair_frameByte]

/-- The lone nibble leaves the register-select line low (R63 (a)). -/
theorem nibbleBytes_lastRS (bl last : Bool) (n : Nibble) : ((nibbleBytes bl last n).getLast?.map rsOf).getD last = false := by
  cases last <;> simp [nibbleBytes, rsOf_frameByte]

/-! ## Reading one transaction -/

/-- Inside a transaction the reader collects the bytes. -/
theorem scan_txBytes (rs : Bool) (read bytes : List Byte) :
    (bytes.map Event.txByte).foldl scanEvent (.inTx rs read) = .inTx rs (read ++ bytes) := by
  induction bytes generalizing read with
  | nil => simp
  | cons b bytes ih => simpa [scanEvent] using ih (read ++ [b])

/-- A transaction of legal bytes is read from idle to idle, however it closes (20_memory.md R52). -/
theorem scan_txEvents {rs : Bool} {bytes : List Byte} (h : txBytesLegal rs bytes = true) (ok : Bool) :
    (txEvents bytes ok).foldl scanEvent (.idle rs) = .idle ((bytes.getLast?.map rsOf).getD rs) := by
  simp [txEvents, scanEvent, scan_txBytes, h]

/-- A legal transaction keeps a trace conforming if `lastRS` follows its last byte. -/
theorem State.TraceConforms.after_tx {s : State} (hs : s.TraceConforms) {bytes : List Byte} {rs : Bool}
    (hlegal : txBytesLegal s.lastRS bytes = true) (hrs : (bytes.getLast?.map rsOf).getD s.lastRS = rs) (ok : Bool) (n : Nat) :
    (s.after (txEvents bytes ok) n rs).TraceConforms := by
  calc scanTrace (s.trace ++ txEvents bytes ok)
      = (txEvents bytes ok).foldl scanEvent (scanTrace s.trace) := List.foldl_append
    _ = (txEvents bytes ok).foldl scanEvent (.idle s.lastRS) := by rw [hs]
    _ = .idle rs := by rw [scan_txEvents hlegal, hrs]

/-- A wait between transactions is allowed (R52). -/
theorem State.TraceConforms.wait {s : State} (hs : s.TraceConforms) (us : Nat) : (wait us s).TraceConforms := by
  calc scanTrace (s.trace ++ [.wait us])
      = scanEvent (scanTrace s.trace) (.wait us) := by rw [scanTrace, List.foldl_concat]; rfl
    _ = .idle s.lastRS := by rw [hs]; rfl

/-! ## What the bodies keep -/

/-- What O58 claims of a state: the pending inputs are the host's, and the trace conforms. -/
def State.TraceLegal (s : State) : Prop := s.HostOnly ∧ s.TraceConforms

/-- Between the transactions of a body: besides, the reserved mode bits are 0, so that the modes may be sent. -/
def State.Ready (s : State) : Prop := s.TraceLegal ∧ s.entryMode.toNat < 4 ∧ s.displayControl.toNat < 8

theorem Run.All.imp {p q : State → Prop} {r : Run} (hr : r.All p) (h : ∀ s, p s → q s) : r.All q := by
  cases r <;> exact h _ hr

namespace State.Ready

variable {s : State}

theorem after_tx (hs : s.Ready) {bytes : List Byte} {rs : Bool} (hlegal : txBytesLegal s.lastRS bytes = true)
    (hrs : (bytes.getLast?.map rsOf).getD s.lastRS = rs) (ok : Bool) (n : Nat) : (s.after (txEvents bytes ok) n rs).Ready := by
  obtain ⟨⟨hhost, htrace⟩, hmodes⟩ := hs
  exact ⟨⟨hhost, htrace.after_tx hlegal hrs ok n⟩, hmodes⟩

theorem send (hs : s.Ready) {v : Byte} {d : Bool} (hv : (d || knownCommand v) = true) : (send v d s).All Ready := by
  rw [send_eq]
  split <;> exact hs.after_tx (txBytesLegal_sendBytes hv _ _) (sendBytes_lastRS _ _ _ _) _ _

theorem sendData (hs : s.Ready) (v : Byte) : (Machine.send v true s).All Ready := hs.send rfl

theorem command (hs : s.Ready) {v : Byte} (hv : knownCommand v = true) : (command v s).All Ready := hs.send hv

/-- The held entry mode may be sent (30_encoding.md R85). -/
theorem sendEntryMode (hs : s.Ready) : (Machine.command (entryModeCmd s.entryMode) s).All Ready := by
  have ⟨_, hem, _⟩ := hs
  exact hs.command (knownCommand_entryModeCmd hem)

/-- The held display control may be sent (R86). -/
theorem sendDisplayControl (hs : s.Ready) : (Machine.command (displayControlCmd s.displayControl) s).All Ready := by
  have ⟨_, _, hdc⟩ := hs
  exact hs.command (knownCommand_displayControlCmd hdc)

theorem sendForceNibble (hs : s.Ready) : (sendNibble Config.nibble4bit s).All Ready := by
  rw [sendNibble_eq]
  split <;> exact hs.after_tx (txBytesLegal_nibbleBytes _ _) (nibbleBytes_lastRS _ _ _) _ _

theorem wait (hs : s.Ready) (us : Nat) : (wait us s).Ready := by
  obtain ⟨⟨hhost, htrace⟩, hmodes⟩ := hs
  exact ⟨⟨hhost, htrace.wait us⟩, hmodes⟩

theorem setCursorPos (hs : s.Ready) (c r : Nat) : (s.setCursorPos c r).Ready := hs

theorem setCursor (hs : s.Ready) (c r : Nat) : (setCursor c r s).All Ready := by
  rw [setCursor_eq]
  split
  · exact hs
  · exact (hs.setCursorPos _ _).command (knownCommand_ddramCmd _ _)

theorem glyph (hs : s.Ready) (ch : Byte) : (glyph ch s).All Ready := by
  refine (hs.sendData ch).andThen fun t ht => ?_
  dsimp only
  split
  · exact ht.setCursor _ _
  · exact ht.setCursorPos _ _

theorem fillSpaces (hs : s.Ready) (k : Nat) : (fillSpaces k s).All Ready := by
  induction k generalizing s with
  | zero => exact hs
  | succ k ih => exact (hs.glyph _).andThen fun _ => ih

theorem clearToEol (hs : s.Ready) : (clearToEol s).All Ready := (hs.fillSpaces _).andThen fun _ ht => ht.setCursor _ _

theorem reinitialize (hs : s.Ready) : (reinitialize s).All Ready := by
  have clear {t : State} (ht : t.Ready) : (Machine.command clearCmd t).All Ready := ht.command (by decide)
  refine (clear hs).andThen fun _ hs => hs.sendForceNibble.andThen fun _ hs => ?_
  refine ((hs.wait _).command (knownCommand_functionSetCmd _)).andThen fun _ hs => ?_
  refine hs.sendEntryMode.andThen fun _ hs => hs.sendDisplayControl.andThen fun _ hs => ?_
  exact (clear hs).andThen fun _ hs => (hs.wait _).setCursorPos 0 0

theorem writeBody (hs : s.Ready) (ch : Byte) : (writeBody ch s).All Ready := by
  unfold Machine.writeBody
  repeat' split
  · exact hs.reinitialize
  · exact hs.setCursor _ _
  · exact hs.clearToEol
  · exact hs.setCursor _ _
  · exact hs.setCursor _ _
  · exact hs.glyph ch

theorem sendAll (hs : s.Ready) (p : List Byte) : (sendAll p s).All Ready := by
  induction p generalizing s with
  | nil => exact hs
  | cons b p ih => exact (hs.sendData b).andThen fun _ => ih

theorem createCharBody (hs : s.Ready) (slot : Nat) (p : List Byte) : (createCharBody slot p s).All Ready :=
  (hs.command (knownCommand_cgramCmd slot)).andThen fun _ ht => ht.sendAll p

theorem setBacklightBody (hs : s.Ready) (level : Int) : (setBacklightBody level s).All Ready :=
  have hlevel : (s.setBacklightLevel level).Ready := hs
  hlevel.command (by decide)

theorem mutateEntryMode (hs : s.Ready) {f : Byte → Byte} (hf : ∀ v, v.toNat < 4 → (f v).toNat < 4) :
    (mutateEntryMode f s).All Ready := by
  obtain ⟨hlegal, hem, hdc⟩ := hs
  have hset : (s.setEntryMode (f s.entryMode)).Ready := ⟨hlegal, hf _ hem, hdc⟩
  exact hset.sendEntryMode

theorem mutateDisplayControl (hs : s.Ready) {f : Byte → Byte} (hf : ∀ v, v.toNat < 8 → (f v).toNat < 8) :
    (mutateDisplayControl f s).All Ready := by
  obtain ⟨hlegal, hem, hdc⟩ := hs
  have hset : (s.setDisplayControl (f s.displayControl)).Ready := ⟨hlegal, hem, hf _ hdc⟩
  exact hset.sendDisplayControl

end State.Ready

/-- An initialization sends the default modes, so it asks nothing of those held before it (40_display_state.md R127). -/
theorem State.TraceLegal.initializeBody {s : State} (hs : s.TraceLegal) (c l : Nat) : (initializeBody c l s).All State.Ready :=
  have hentry : Config.defaultEntry.toNat < 4 := by decide
  have hcontrol : Config.defaultDC.toNat < 8 := by decide
  have hdefaults : ((((s.setGeometry c l).setEntryMode Config.defaultEntry).setDisplayControl
      Config.defaultDC).setInitialized).Ready := ⟨hs, hentry, hcontrol⟩
  hdefaults.reinitialize

/-! ## What an instruction of the host keeps -/

/-- A host operation keeps the trace legal if its body does and its draw leaves trace, `lastRS` and pending inputs alone. -/
theorem State.TraceLegal.hostOp {s : State} (hs : s.TraceLegal) {check : State → Option Refusal} {draw : State → State}
    {ret : Option Nat} {body : State → Run} (hdraw : ∀ t, t.TraceLegal → (draw t).TraceLegal)
    (hbody : (body s).All State.Ready) : (hostOp check draw ret body s).TraceLegal := by
  rcases hostOp_cases check draw ret body s with ⟨r, -, e⟩ | ⟨-, t, hb, e⟩ | ⟨-, t, hb, e⟩ <;> rw [e]
  · exact hs
  · rw [hb] at hbody; exact hbody.1
  · rw [hb] at hbody; exact hdraw _ hbody.1

theorem State.TraceLegal.drawInitialize {s : State} (hs : s.TraceLegal) : (drawInitialize s).TraceLegal := by
  obtain ⟨htrace, hlast, hinput⟩ := drawInitialize_bus s
  rw [State.TraceLegal, State.HostOnly, State.TraceConforms, htrace, hlast, hinput]
  exact hs

theorem State.TraceLegal.exec_initializeBlock {s t : State} (hs : s.TraceLegal) {c l : Int}
    (e : exec (.initializeBlock c l) s = .next t) : t.TraceLegal := by
  cases e
  exact hs.hostOp (fun _ => State.TraceLegal.drawInitialize) (hs.initializeBody _ _)

/-- From a state whose modes are in their domains, every instruction of the host keeps the trace legal. -/
theorem State.Ready.exec {s t : State} (hs : s.Ready) {i : Instr} (hi : i.fromHost = true) (e : exec i s = .next t) :
    t.TraceLegal := by
  have runs {check : State → Option Refusal} {draw : State → State} {ret : Option Nat} {body : State → Run}
      (hdraw : ∀ u, u.TraceLegal → (draw u).TraceLegal) (hbody : (body s).All State.Ready) :
      (hostOp check draw ret body s).TraceLegal := hs.1.hostOp hdraw hbody
  cases i with
  | initializeBlock c l => exact hs.1.exec_initializeBlock e
  | reinitialize | charReinit => cases e; exact runs (fun _ => id) hs.reinitialize
  | home | setCursor | charHome | charCr | charLf => cases e; exact runs (fun _ => id) (hs.setCursor _ _)
  | displayOn | cursorOn | blinkOn =>
    cases e; exact runs (fun _ => id) (hs.mutateDisplayControl fun _ => withFlag_toNat_lt (k := 3) (by decide))
  | displayOff | cursorOff | blinkOff =>
    cases e; exact runs (fun _ => id) (hs.mutateDisplayControl fun _ => (withoutFlag_toNat_le _ _).trans_lt)
  | leftToRight | autoscrollOn =>
    cases e; exact runs (fun _ => id) (hs.mutateEntryMode fun _ => withFlag_toNat_lt (k := 2) (by decide))
  | rightToLeft | autoscrollOff =>
    cases e; exact runs (fun _ => id) (hs.mutateEntryMode fun _ => (withoutFlag_toNat_le _ _).trans_lt)
  | scrollLeft | scrollRight => cases e; exact runs (fun _ => id) (hs.command (by decide))
  | setBacklight level => cases e; exact runs (fun _ => id) (hs.setBacklightBody level)
  | createChar slot p => cases e; exact runs (fun _ => id) (hs.createCharBody _ p)
  | write ch => cases e; exact runs (fun _ => id) (hs.writeBody ch)
  | charClrEol => cases e; exact runs (fun _ => id) hs.clearToEol
  | charGlyph ch => cases e; exact runs (fun _ => id) (hs.glyph ch)
  | _ => exact nomatch hi

/-- An initialized state in its domains is ready; before that, every instruction but `initializeBlock` is refused (R29, D15). -/
theorem State.TraceLegal.exec {s t : State} (hs : s.TraceLegal) (hd : s.InDomains) {i : Instr} (hi : i.fromHost = true)
    (e : exec i s = .next t) : t.TraceLegal := by
  cases hinit : s.initialized with
  | true =>
    obtain ⟨-, -, hem, hdc, -⟩ := hd.1 hinit
    exact State.Ready.exec ⟨hs, hem, hdc⟩ hi e
  | false =>
    by_cases hgeometry : ∃ c l, i = .initializeBlock c l
    · obtain ⟨c, l, rfl⟩ := hgeometry
      exact hs.exec_initializeBlock e
    · have hother : ∀ c l, i ≠ .initializeBlock c l := fun c l h => hgeometry ⟨c, l, h⟩
      rw [hostOperationsAreRefusedBeforeInitialize i s hi hother hinit] at e
      cases e; exact hs

/-! ## What a step of the host keeps -/

/-- Every input byte decodes to an instruction of the host (30_encoding.md R90). -/
theorem decodeChar_fromHost (b : Byte) : (decodeChar b).fromHost = true := by
  unfold decodeChar
  repeat' split
  all_goals rfl

/-- Settles O58: the input taken is an instruction of the host, and it runs on a state whose domains and trace are those before. -/
theorem stepKeepsTheTraceLegal : Obligations.StepKeepsTheTraceLegal := by
  intro s t hd hhost htrace e
  obtain ⟨-, rfl⟩ | ⟨i, rest, hinput, e⟩ := step_cases e
  · exact ⟨hhost, htrace⟩
  · suffices h : i.fromHost = true ∧ rest.all HostInput.legal = true from
      State.TraceLegal.exec (s := s.setInput rest) ⟨h.2, htrace⟩ hd h.1 e
    obtain hcall | ⟨b, hbyte, rfl⟩ := hinput
    · simpa [State.HostOnly, hcall, HostInput.legal] using hhost
    · refine ⟨decodeChar_fromHost b, ?_⟩
      simpa [State.HostOnly, hbyte, HostInput.legal] using hhost

end Sys2Proof.Machine
end

section
/-! PROOFS. The encodings of 30_encoding.md: the decoder of each place and the encoder are inverse to each other, the command rows are
disjoint, the Set-DDRAM byte of the cursor is the word of its row, each command row and each mutator puts such a word on the bus, and
arguments outside the domains of R91 are refused. -/

namespace Sys2Proof.Machine

/-! ## The words of the rows (30_encoding.md R80, R82) -/

theorem entryModeWord_pattern (i e : Bool) :
    entryModeWord i e = (0b000001#6 ++ BitVec.ofBool i ++ BitVec.ofBool e : BitVec 8) := by
  revert i e; decide

theorem displayControlWord_pattern (d c b : Bool) :
    displayControlWord d c b = (0b00001#5 ++ BitVec.ofBool d ++ BitVec.ofBool c ++ BitVec.ofBool b : BitVec 8) := by
  revert d c b; decide

theorem displayShiftWord_pattern (r : Bool) :
    displayShiftWord r = (0b00011#5 ++ BitVec.ofBool r ++ 0b00#2 : BitVec 8) := by
  revert r; decide

theorem functionSetWord_pattern (n : Bool) :
    functionSetWord n = (0b0010#4 ++ BitVec.ofBool n ++ 0b000#3 : BitVec 8) := by
  revert n; decide

theorem setCgramWord_pattern (a : BitVec 3) : setCgramWord a = (0b01#2 ++ a ++ 0b000#3 : BitVec 8) := by
  revert a; decide

theorem setDdramWord_pattern (a : BitVec 7) : setDdramWord a = (0b1#1 ++ a : BitVec 8) := rfl

/-! ## Decoding a word -/

/-- An escape byte is the word of the row it decodes to, and any other byte is a glyph (R90). -/
theorem encode_decodeChar (b : Byte) : encode (decodeChar b) = some (.charIn b) ∧ (decodeChar b).wellFormed = true := by
  by_cases h : b ∈ escapeBytes
  · have hall : ∀ b ∈ escapeBytes, encode (decodeChar b) = some (.charIn b) ∧ (decodeChar b).wellFormed = true := by decide
    exact hall b h
  · rw [decodeChar_glyph h]
    exact ⟨rfl, by simpa [Instr.wellFormed] using h⟩

theorem decodeCommand_entryModeWord (i e : Bool) : decodeCommand (entryModeWord i e) = .ok (.cmdEntryModeSet i e) := by
  revert i e; decide

theorem decodeCommand_displayControlWord (d c b : Bool) :
    decodeCommand (displayControlWord d c b) = .ok (.cmdDisplayControl d c b) := by
  revert d c b; decide

theorem decodeCommand_displayShiftWord (r : Bool) : decodeCommand (displayShiftWord r) = .ok (.cmdDisplayShift r) := by
  revert r; decide

theorem decodeCommand_functionSetWord (n : Bool) : decodeCommand (functionSetWord n) = .ok (.cmdFunctionSet n) := by
  revert n; decide

theorem decodeCommand_setCgramWord (a : BitVec 3) : decodeCommand (setCgramWord a) = .ok (.cmdSetCgramAddr a) := by
  revert a; decide

theorem decodeCommand_setDdramWord (a : BitVec 7) : decodeCommand (setDdramWord a) = .ok (.cmdSetDdramAddr a) := by
  revert a; decide +kernel

theorem decodeFrame_frameWord (n : Nibble) (b e r : Bool) : decodeFrame (frameWord n b e r) = .ok (.frame n b e r) := by
  revert n b e r; decide +kernel

/-- Settles O4: the word of each row decodes to the row with the operands it was built from; a well-formed glyph is no escape byte. -/
theorem decodeOfEncodeIsTheInstruction : Obligations.DecodeOfEncodeIsTheInstruction := by
  intro i e hwf he
  cases i with
  | charReinit | charHome | charClrEol | charCr | charLf | cmdClear | cmdNull | cmdForceNibble => cases he; rfl
  | charGlyph c =>
    have hglyph : c ∉ escapeBytes := by simpa [Instr.wellFormed] using hwf
    cases he; exact congrArg Decoded.ok (decodeChar_glyph hglyph)
  | cmdEntryModeSet i e => cases he; exact decodeCommand_entryModeWord i e
  | cmdDisplayControl d c b => cases he; exact decodeCommand_displayControlWord d c b
  | cmdDisplayShift r => cases he; exact decodeCommand_displayShiftWord r
  | cmdFunctionSet n => cases he; exact decodeCommand_functionSetWord n
  | cmdSetCgramAddr a => cases he; exact decodeCommand_setCgramWord a
  | cmdSetDdramAddr a => cases he; exact decodeCommand_setDdramWord a
  | frame n b e r => cases he; exact decodeFrame_frameWord n b e r
  | _ => exact nomatch he

/-! ## Encoding what a decoder accepts: a byte in a row is the word of its own fields -/

theorem entryModeWord_of_row {b : Byte} (h : b &&& 0xFC#8 = 0x04#8) : entryModeWord (b.getLsbD 1) (b.getLsbD 0) = b := by
  revert b; decide +kernel

theorem displayControlWord_of_row {b : Byte} (h : b &&& 0xF8#8 = 0x08#8) :
    displayControlWord (b.getLsbD 2) (b.getLsbD 1) (b.getLsbD 0) = b := by
  revert b; decide +kernel

theorem displayShiftWord_of_row {b : Byte} (h : b &&& 0xFB#8 = 0x18#8) : displayShiftWord (b.getLsbD 2) = b := by
  revert b; decide +kernel

theorem functionSetWord_of_row {b : Byte} (h : b &&& 0xF7#8 = 0x20#8) : functionSetWord (b.getLsbD 3) = b := by
  revert b; decide +kernel

theorem setCgramWord_of_row {b : Byte} (h : b &&& 0xC7#8 = 0x40#8) : setCgramWord (b.extractLsb' 3 3) = b := by
  revert b; decide +kernel

theorem setDdramWord_of_bit7 {b : Byte} (h : b.getLsbD 7 = true) : setDdramWord (b.extractLsb' 0 7) = b := by
  revert b; decide +kernel

/-- A byte below 0x80 is in a command row or in a group of R93 (c) that is never produced. -/
theorem lowerRow_of_not_bit7 {b : Byte} (h : b.getLsbD 7 = false) :
    b = 0x00#8 ∨ b = 0x01#8 ∨ b &&& 0xFE#8 = 0x02#8 ∨ b &&& 0xFC#8 = 0x04#8 ∨ b &&& 0xF8#8 = 0x08#8 ∨ b &&& 0xF8#8 = 0x10#8 ∨
    b &&& 0xF8#8 = 0x18#8 ∨ b &&& 0xE0#8 = 0x20#8 ∨ b &&& 0xC0#8 = 0x40#8 := by
  revert b; decide +kernel

/-- What the command decoder accepts has that word (R82, R93 (c)): the last row is reached only with bit 7 set. -/
theorem encode_of_decodeCommand {b : Byte} {i : Instr} (h : decodeCommand b = .ok i) :
    encode i = some (.ctrlCmd b) ∧ i.wellFormed = true := by
  simp only [decodeCommand, ite_eq_iff, Decoded.ok.injEq, reduceCtorEq, and_false, false_or] at h
  obtain ⟨rfl, rfl⟩ | ⟨hnull, h⟩ := h
  · exact ⟨rfl, rfl⟩
  obtain ⟨rfl, rfl⟩ | ⟨hclear, hhome, h⟩ := h
  · exact ⟨rfl, rfl⟩
  obtain ⟨hrow, rfl⟩ | ⟨hentry, h⟩ := h
  · exact ⟨by rw [encode, entryModeWord_of_row hrow], rfl⟩
  obtain ⟨hrow, rfl⟩ | ⟨hcontrol, hcursor, h⟩ := h
  · exact ⟨by rw [encode, displayControlWord_of_row hrow], rfl⟩
  obtain ⟨hrow, rfl⟩ | ⟨-, hshift, h⟩ := h
  · exact ⟨by rw [encode, displayShiftWord_of_row hrow], rfl⟩
  obtain ⟨hrow, rfl⟩ | ⟨-, hfunction, h⟩ := h
  · exact ⟨by rw [encode, functionSetWord_of_row hrow], rfl⟩
  obtain ⟨hrow, rfl⟩ | ⟨-, hcgram, rfl⟩ := h
  · exact ⟨by rw [encode, setCgramWord_of_row hrow], rfl⟩
  · have hbit7 : b.getLsbD 7 = true := by
      by_contra hlow
      have hrow := lowerRow_of_not_bit7 (Bool.eq_false_iff.mpr hlow)
      simp only [hnull, hclear, hhome, hentry, hcontrol, hcursor, hshift, hfunction, hcgram, or_self] at hrow
    exact ⟨by rw [encode, setDdramWord_of_bit7 hbit7], rfl⟩

/-- The one lone nibble accepted is that of the 4-bit force (R82, last row). -/
theorem encode_of_decodeNibbleCommand {n : Nibble} {i : Instr} (h : decodeNibbleCommand n = .ok i) :
    encode i = some (.ctrlNibble n) ∧ i.wellFormed = true := by
  unfold decodeNibbleCommand at h
  split_ifs at h with hn
  cases h
  exact ⟨by rw [hn]; rfl, rfl⟩

theorem frameWord_of_not_read {b : Byte} (h : b.getLsbD Config.bitRW = false) :
    frameWord (highNibble b) (b.getLsbD Config.bitBL) (b.getLsbD Config.bitEN) (b.getLsbD Config.bitRS) = b := by
  revert b; decide +kernel

/-- What the frame decoder accepts has RW = 0 and is the frame of its own fields (R80, R93 (d)). -/
theorem encode_of_decodeFrame {b : Byte} {i : Instr} (h : decodeFrame b = .ok i) :
    encode i = some (.frame b) ∧ i.wellFormed = true := by
  unfold decodeFrame at h
  split_ifs at h with hread
  cases h
  exact ⟨by rw [encode, frameWord_of_not_read (Bool.eq_false_iff.mpr hread)], rfl⟩

/-- Settles O5: each place has its own decoder, and what it accepts is the row's word of the fields it read. -/
theorem encodeOfDecodeIsTheWord : Obligations.EncodeOfDecodeIsTheWord := by
  intro e i h
  cases e with
  | charIn b => cases h; exact encode_decodeChar b
  | ctrlCmd b => exact encode_of_decodeCommand h
  | ctrlNibble n => exact encode_of_decodeNibbleCommand h
  | frame b => exact encode_of_decodeFrame h

/-! ## The command rows are disjoint (R82) -/

/-- Mask and match of the controller command rows, the lone nibble apart. -/
def commandRows : List (Byte × Byte) :=
  [(0xFF#8, 0x01#8), (0xFC#8, 0x04#8), (0xF8#8, 0x08#8), (0xFB#8, 0x18#8), (0xF7#8, 0x20#8), (0xC7#8, 0x40#8), (0x80#8, 0x80#8),
    (0xFF#8, 0x00#8)]

theorem tableBits_mem_commandRows {i : Instr} {row : Byte × Byte} (hf : i.format = .ctrlCmd) (hi : i ≠ .cmdForceNibble)
    (h : i.tableBits = some row) : row ∈ commandRows := by
  cases i with
  | cmdClear | cmdEntryModeSet | cmdDisplayControl | cmdDisplayShift | cmdFunctionSet | cmdSetCgramAddr | cmdSetDdramAddr
  | cmdNull => cases h; decide
  | cmdForceNibble => exact absurd rfl hi
  | _ => exact nomatch hf

/-- A byte in two rows has each row's match under the other row's mask. -/
theorem match_agree_of_mem_both {b mi bi mj bj : Byte} (hi : b &&& mi = bi) (hj : b &&& mj = bj) : bi &&& mj = bj &&& mi := by
  rw [← hi, ← hj, BitVec.and_assoc, BitVec.and_assoc, BitVec.and_comm mi]

/-- The rows differ in a bit that both fix. -/
abbrev RowsDiffer (p q : Byte × Byte) : Prop := p.2 &&& q.1 ≠ q.2 &&& p.1

theorem commandRows_pairwise_differ : commandRows.Pairwise RowsDiffer := by decide

/-- Settles O6: a byte in both rows makes their fixed bits agree, which no two of the eight rows do. -/
theorem commandRowsDoNotOverlap : Obligations.CommandRowsDoNotOverlap := by
  intro i j mi bi mj bj b hfi hfj hni hnj hi hj hbi hbj
  have hmi := tableBits_mem_commandRows hfi hni hi
  have hmj := tableBits_mem_commandRows hfj hnj hj
  have hrows : (mi, bi) = (mj, bj) := by
    have hsymm : Std.Symm RowsDiffer := ⟨fun _ _ h => h.symm⟩
    by_contra hne
    exact commandRows_pairwise_differ.forall hmi hmj hne (match_agree_of_mem_both hbi hbj)
  exact Prod.mk.inj hrows

/-! ## The Set-DDRAM byte (R83) -/

theorem setDdramWord_bit7 (a : BitVec 7) : (setDdramWord a).getLsbD 7 = true := by simp [setDdramWord]

theorem setDdramWord_toNat (a : BitVec 7) : (setDdramWord a).toNat = 0x80 + a.toNat := by
  rw [setDdramWord, BitVec.toNat_or, BitVec.toNat_setWidth_of_le (by decide)]
  exact (Nat.two_pow_add_eq_or_of_lt a.isLt 1).symm

theorem setDdramWord_address (a : BitVec 7) : (setDdramWord a).extractLsb' 0 7 = a := by
  have hlt := a.isLt
  apply BitVec.eq_of_toNat_eq
  rw [BitVec.extractLsb'_toNat, setDdramWord_toNat, Nat.shiftRight_zero]
  omega

/-- The cursor's command is the word of the Set-DDRAM row at the address modulo 128: bits above the seventh are truncated, and the
seventh is set whatever the sum. -/
theorem ddramCmd_eq_setDdramWord (c r : Nat) : ddramCmd c r = setDdramWord (BitVec.ofNat 7 ((rowOffset r).toNat + c)) := by
  apply BitVec.eq_of_getLsbD_eq
  intro k hk
  obtain rfl | hlow : k = 7 ∨ k < 7 := by omega
  · simp [ddramCmd, trunc8, setDdramWord]
  · simp only [ddramCmd, trunc8, setDdramWord, BitVec.ofNat_or, BitVec.getLsbD_or, BitVec.getLsbD_setWidth, BitVec.getLsbD_ofNat,
      hlow, hk, decide_true, Bool.true_and]

/-- The largest row offset is that of row 3 (10_state.md R28). -/
theorem rowOffset_toNat_le {r : Nat} (h : r < 4) : (rowOffset r).toNat ≤ 0x54 := by
  revert r; decide

/-- Settles O7: the byte is the Set-DDRAM word of the sum modulo 128, and 0x54 + 43 is still below 128. -/
theorem setDdramByteIsTopBitAndAddressModulo128 : Obligations.SetDdramByteIsTopBitAndAddressModulo128 := by
  intro c r columns lines hc hr hlines
  have hword := ddramCmd_eq_setDdramWord c r
  have hsum : (ddramCmd c r).toNat = 0x80 + ((rowOffset r).toNat + c) % 128 := by
    rw [hword, setDdramWord_toNat, BitVec.toNat_ofNat]
  refine ⟨BitVec.toNat_ofNat _ _, by rw [hword, setDdramWord_bit7], by rw [hword, setDdramWord_address], hsum, fun hcolumns => ?_⟩
  have hoffset := rowOffset_toNat_le (hr.trans_le hlines)
  rw [hsum, Nat.mod_eq_of_lt (by omega)]

/-! ## Command rows on the bus -/

/-- A command run by itself, its close answered with success. -/
theorem next_internalOp_command {s : State} (ha : s.answerAt 0 = true) {b w : Byte} (hb : b = w) :
    (.next (internalOp (command b) s) : Host.Outcome State Fault Refusal) = .next (s.commanded w) := by
  rw [internalOp, command_done ha, hb]

/-- Settles O18: each row is one command of its word, and the word is the pattern R82 prints. -/
theorem controllerCommandsComplete : Obligations.ControllerCommandsComplete := by
  intro s hs
  have ha := hs 0 Nat.one_pos
  refine ⟨next_internalOp_command ha rfl, fun i e => next_internalOp_command ha (entryModeWord_pattern i e),
    fun d c b => next_internalOp_command ha (displayControlWord_pattern d c b),
    fun r => next_internalOp_command ha (displayShiftWord_pattern r),
    fun n => next_internalOp_command ha (functionSetWord_pattern n),
    fun a => next_internalOp_command ha (setCgramWord_pattern a),
    fun a => next_internalOp_command ha (setDdramWord_pattern a), next_internalOp_command ha rfl, ?_⟩
  have hnibble : internalOp (sendNibble Config.nibble4bit) s = s.after (nibbleEvents s.bl s.lastRS 0b0010#4) 1 false := by
    rw [internalOp, sendNibble_done ha]; rfl
  exact congrArg _ hnibble

/-! ## The mutators' commands (R85, R86) -/

/-- Without reserved bits the display control only fills the row's low three bits. -/
theorem displayControlCmd_toNat {v : Byte} (h : v.toNat < 2 ^ 3) : (displayControlCmd v).toNat = 0x08 + v.toNat := by
  rw [displayControlCmd, BitVec.toNat_or]
  exact (Nat.two_pow_add_eq_or_of_lt h 1).symm

/-- Without reserved bits the entry mode only fills the row's low two bits. -/
theorem entryModeCmd_toNat {v : Byte} (h : v.toNat < 2 ^ 2) : (entryModeCmd v).toNat = 0x04 + v.toNat := by
  rw [entryModeCmd, BitVec.toNat_or]
  exact (Nat.two_pow_add_eq_or_of_lt h 1).symm

theorem mutateDisplayControl_done {s : State} (ha : s.answerAt 0 = true) (f : Byte → Byte) :
    mutateDisplayControl f s =
      .done ((s.setDisplayControl (f s.displayControl)).commanded (displayControlCmd (f s.displayControl))) :=
  have hset : (s.setDisplayControl (f s.displayControl)).answerAt 0 = true := ha
  command_done hset _

theorem mutateEntryMode_done {s : State} (ha : s.answerAt 0 = true) (f : Byte → Byte) :
    mutateEntryMode f s = .done ((s.setEntryMode (f s.entryMode)).commanded (entryModeCmd (f s.entryMode))) :=
  have hset : (s.setEntryMode (f s.entryMode)).answerAt 0 = true := ha
  command_done hset _

/-- The outcome is a next state whose trace has grown by one `send` of a command byte in `lo..hi`. -/
def SendsCommandIn (lo hi : Nat) (s : State) (o : Host.Outcome State Fault Refusal) : Prop :=
  ∃ v : Byte, lo ≤ v.toNat ∧ v.toNat ≤ hi ∧ ∃ t, o = .next t ∧ t.trace = s.trace ++ sendEvents s.bl s.lastRS v false

section
variable {s : State} {f : Byte → Byte} (hs : s.initialized = true) (ha : s.answerAt 0 = true)
include hs ha

theorem displayControlMutator_sends (hf : (f s.displayControl).toNat < 2 ^ 3) :
    SendsCommandIn 0x08 0x0F s (.next (hostOp checkInitialized drawDisplayControl none (mutateDisplayControl f) s)) := by
  have hbyte := displayControlCmd_toNat hf
  refine ⟨displayControlCmd (f s.displayControl), by omega, by omega, _, rfl, ?_⟩
  rw [hostOp_completes (checkInitialized_of_initialized hs) (mutateDisplayControl_done ha f)]; rfl

theorem entryModeMutator_sends (hf : (f s.entryMode).toNat < 2 ^ 2) :
    SendsCommandIn 0x04 0x07 s (.next (hostOp checkInitialized drawEntryMode none (mutateEntryMode f) s)) := by
  have hbyte := entryModeCmd_toNat hf
  refine ⟨entryModeCmd (f s.entryMode), by omega, by omega, _, rfl, ?_⟩
  rw [hostOp_completes (checkInitialized_of_initialized hs) (mutateEntryMode_done ha f)]; rfl

end

/-- Settles O21: in a state in its domains neither setting nor clearing a flag adds a reserved bit, so the byte is its row's base plus
the mode. -/
theorem mutatorBytesStayInTheirRows : Obligations.MutatorBytesStayInTheirRows := by
  intro s hs hdomains hcloses
  have ha := hcloses 0 Nat.one_pos
  obtain ⟨-, -, hem, hdc, -⟩ := hdomains.1 hs
  constructor
  · have on {m : Byte} (hm : m.toNat < 2 ^ 3) := displayControlMutator_sends hs ha (withFlag_toNat_lt hm hdc)
    have off (m : Byte) := displayControlMutator_sends hs ha ((withoutFlag_toNat_le m _).trans_lt hdc)
    simp only [List.forall_mem_cons]
    exact ⟨on (by decide), off _, on (by decide), off _, on (by decide), off _, nofun⟩
  · have on {m : Byte} (hm : m.toNat < 2 ^ 2) := entryModeMutator_sends hs ha (withFlag_toNat_lt hm hem)
    have off (m : Byte) := entryModeMutator_sends hs ha ((withoutFlag_toNat_le m _).trans_lt hem)
    simp only [List.forall_mem_cons]
    exact ⟨on (by decide), off _, on (by decide), off _, nofun⟩

/-! ## Arguments outside their domains (R93 (b), D17) -/

section
variable {s : State} (hs : s.initialized = true) {slot : Int} {p : List Byte}
include hs

theorem checkArguments_outOfDomain {ok : Bool} (h : ¬ok = true) : checkArguments ok s = some .argumentOutOfDomain := by
  rw [checkArguments_of_initialized hs, if_neg h]

theorem checkCreateChar_slotOutOfDomain (hslot : argInDomain slot = false) (hp : patternInDomain p = true) :
    checkCreateChar slot p s = some .argumentOutOfDomain := by
  simp [checkCreateChar, hs, hslot, hp]

theorem checkCreateChar_patternLength (hslot : argInDomain slot = true) (hp : patternInDomain p = false) :
    checkCreateChar slot p s = some .patternLength := by
  simp [checkCreateChar, hs, hslot, hp]

/-- With both arguments out of domain the reason is a free choice between the two (log entry 18). -/
theorem checkCreateChar_bothOutOfDomain (hslot : argInDomain slot = false) (hp : patternInDomain p = false) :
    checkCreateChar slot p s = some .argumentOutOfDomain ∨ checkCreateChar slot p s = some .patternLength := by
  cases hfirst : Config.patternCheckedFirst
  · exact .inl (by simp [checkCreateChar, hs, hslot, hp, hfirst])
  · exact .inr (by simp [checkCreateChar, hs, hslot, hp, hfirst])

end

theorem argInDomain_eq_false {a : Int} (h : ¬(0 ≤ a ∧ a ≤ 255)) : argInDomain a = false := by
  rwa [Bool.eq_false_iff, ne_eq, argInDomain_iff]

theorem patternInDomain_eq_false {p : List Byte} (h : p.length ≠ 8) : patternInDomain p = false := by
  rwa [Bool.eq_false_iff, ne_eq, patternInDomain_iff]

/-- Settles O43: each operation's check answers the reason of the argument outside its domain. -/
theorem argumentsOutOfDomainAreRefused : Obligations.ArgumentsOutOfDomainAreRefused := by
  intro s hs
  refine ⟨fun col row h => ?_, fun level h => ?_, fun slot p hslot hp => ?_, fun slot p hlo hhi hp => ?_, fun slot p hslot hp => ?_⟩
  · have hok : ¬(argInDomain col && argInDomain row) = true := by
      rwa [Bool.and_eq_true, argInDomain_iff, argInDomain_iff, and_assoc]
    exact next_hostOp_refused (checkArguments_outOfDomain hs hok)
  · have hok : ¬levelInDomain level = true := by rwa [levelInDomain_iff]
    exact next_hostOp_refused (checkArguments_outOfDomain hs hok)
  · exact next_hostOp_refused
      (checkCreateChar_slotOutOfDomain hs (argInDomain_eq_false hslot) ((patternInDomain_iff p).mpr hp))
  · exact next_hostOp_refused
      (checkCreateChar_patternLength hs ((argInDomain_iff slot).mpr ⟨hlo, hhi⟩) (patternInDomain_eq_false hp))
  · exact (checkCreateChar_bothOutOfDomain hs (argInDomain_eq_false hslot) (patternInDomain_eq_false hp)).imp
      next_hostOp_refused next_hostOp_refused

/-! ## Words of the tables -/

/-- Settles O3: the decoders of the three places evaluated at the words printed. -/
theorem tableWordsDecode : Obligations.TableWordsDecode :=
  ⟨rfl, rfl, rfl, rfl, rfl, rfl, rfl, rfl, rfl, rfl⟩

end Sys2Proof.Machine
end

section
/-! PROOFS. The display state's operations (40_display_state.md): row bases, mutators, scrolls and the cursor. Each is one command,
so it either completes or takes the failure of that command's close. -/

namespace Sys2Proof.Machine

/-! ## Row bases (R112) -/

/-- While the sum of row offset and column stays below 0x80 nothing of it is truncated. -/
theorem ddramCmd_of_sum_lt {c r : Nat} (h : (rowOffset r).toNat + c < 128) :
    ddramCmd c r = BitVec.ofNat 8 (0x80 + (rowOffset r).toNat + c) := by
  have hsum : ((rowOffset r).toNat + c) % 128 = (rowOffset r).toNat + c := Nat.mod_eq_of_lt h
  rw [ddramCmd_eq_setDdramWord]
  apply BitVec.eq_of_toNat_eq
  rw [setDdramWord_toNat, BitVec.toNat_ofNat, hsum, BitVec.toNat_ofNat]
  omega

/-- Settles O8: the base of each row is 0x80 plus its offset in the table of R28. -/
theorem ddramRowBases : Obligations.DdramRowBases := by
  intro c
  have h0 : (rowOffset 0).toNat = 0x00 := rfl
  have h1 : (rowOffset 1).toNat = 0x40 := rfl
  have h2 : (rowOffset 2).toNat = 0x14 := rfl
  have h3 : (rowOffset 3).toNat = 0x54 := rfl
  refine ⟨fun _ => ?_, fun _ => ?_, fun _ => ?_, fun _ => ?_⟩
  · rw [ddramCmd_of_sum_lt (by omega), h0]
  · rw [ddramCmd_of_sum_lt (by omega), h1]
  · rw [ddramCmd_of_sum_lt (by omega), h2]
  · rw [ddramCmd_of_sum_lt (by omega), h3]

/-! ## The outcome of a checked operation -/

/-- The outcome of an operation that passes its checks and goes through. -/
theorem next_hostOp_completes {check : State → Option Refusal} {draw : State → State} {ret : Option Nat} {body : State → Run}
    {s t : State} (hc : check s = none) (hb : body s = .done t) :
    (.next (hostOp check draw ret body s) : Host.Outcome State Fault Refusal) = .next (t.completed ret) :=
  congrArg _ (hostOp_completes hc hb)

/-- The outcome of an operation that passes its checks and has a failed close. -/
theorem next_hostOp_faults {check : State → Option Refusal} {draw : State → State} {ret : Option Nat} {body : State → Run}
    {s t : State} (hc : check s = none) (hb : body s = .failed t) :
    (.next (hostOp check draw ret body s) : Host.Outcome State Fault Refusal) = .next (busFailure draw t) :=
  congrArg _ (hostOp_faults hc hb)

/-! ## Mutators and scrolls (R114 to R125) -/

/-- Settles O19: each mutator stores the new value and sends it, whatever the old one was. -/
theorem displayControlMutatorsComplete : Obligations.DisplayControlMutatorsComplete := by
  intro s hs hcloses
  have completes (f : Byte → Byte) : (.next (hostOp checkInitialized drawDisplayControl none (mutateDisplayControl f) s) :
      Host.Outcome State Fault Refusal) = _ :=
    next_hostOp_completes (checkInitialized_of_initialized hs) (mutateDisplayControl_done (hcloses 0 Nat.one_pos) f)
  exact ⟨completes _, completes _, completes _, completes _, completes _, completes _⟩

/-- Settles O20: each mutator stores the new value and sends it, whatever the old one was. -/
theorem entryModeMutatorsComplete : Obligations.EntryModeMutatorsComplete := by
  intro s hs hcloses
  have completes (f : Byte → Byte) : (.next (hostOp checkInitialized drawEntryMode none (mutateEntryMode f) s) :
      Host.Outcome State Fault Refusal) = _ :=
    next_hostOp_completes (checkInitialized_of_initialized hs) (mutateEntryMode_done (hcloses 0 Nat.one_pos) f)
  exact ⟨completes _, completes _, completes _, completes _⟩

/-- A failed command of an operation that draws nothing changes no field but the two marks of the failure. -/
theorem busFailure_drawNothing_command (s : State) (b : Byte) :
    busFailure drawNothing (s.after (txEvents (sendBytes s.bl s.lastRS b false) false) 1 false) = s.commandFailed b := rfl

/-- Settles O22: a scroll is one command without a field of its own, so its failure draws nothing. -/
theorem scrollsSendTheirFixedCommand : Obligations.ScrollsSendTheirFixedCommand := by
  intro s hs
  have hcheck := checkInitialized_of_initialized hs
  refine ⟨fun hcloses => ?_, fun hfail => ?_⟩
  · have completes (b : Byte) := next_hostOp_completes (draw := drawNothing) (ret := none) hcheck
      (command_done (hcloses 0 Nat.one_pos) b)
    exact ⟨completes _, completes _⟩
  · have faults (b : Byte) := next_hostOp_faults (draw := drawNothing) (ret := none) hcheck (command_failed hfail b)
    simp only [busFailure_drawNothing_command] at faults
    exact ⟨faults _, faults _⟩

/-! ## The cursor (R111, R113) -/

section
variable {s : State} {col row : Int} (hs : s.initialized = true)
include hs

theorem checkArguments_inDomain {ok : Bool} (h : ok = true) : checkArguments ok s = none := by
  rw [checkArguments_of_initialized hs, if_pos h]

variable (hcol : 0 ≤ col ∧ col ≤ 255) (hrow : 0 ≤ row ∧ row ≤ 255)
include hcol hrow

/-- A `setCursor` with arguments in 0..255 passes its checks (D17). -/
theorem checkArguments_position : checkArguments (argInDomain col && argInDomain row) s = none :=
  checkArguments_inDomain hs (by simp [argInDomain_iff, hcol, hrow])

/-- A call to the stored position completes and changes nothing (R111 (b)). -/
theorem exec_setCursor_stored (h : col = s.cursorCol ∧ row = s.cursorRow) :
    exec (.setCursor col row) s = .next (s.completed none) := by
  have hsame : col.toNat = s.cursorCol ∧ row.toNat = s.cursorRow := by omega
  exact next_hostOp_completes (checkArguments_position hs hcol hrow) (setCursor_same hsame)

/-- A call to another position wraps it, stores it and sends its command. -/
theorem exec_setCursor_moves (h : ¬(col = s.cursorCol ∧ row = s.cursorRow)) (ha : s.answerAt 0 = true) :
    exec (.setCursor col row) s =
      .next (((s.setCursorPos (col.toNat % s.columns) (row.toNat % s.lines)).commanded
        (ddramCmd (col.toNat % s.columns) (row.toNat % s.lines))).completed none) := by
  have hmoves : ¬(col.toNat = s.cursorCol ∧ row.toNat = s.cursorRow) := by omega
  exact next_hostOp_completes (checkArguments_position hs hcol hrow) (setCursor_done hmoves ha)

/-- A call to another position whose command fails leaves the cursor a draw within the geometry (60_exceptions.md R213). -/
theorem exec_setCursor_faults (h : ¬(col = s.cursorCol ∧ row = s.cursorRow)) (ha : s.answerAt 0 = false) :
    exec (.setCursor col row) s =
      .next { s.commandFailed (ddramCmd (col.toNat % s.columns) (row.toNat % s.lines)) with
        cursorCol := Config.freeNat s.draws % s.columns, cursorRow := Config.freeNat (s.draws + 1) % s.lines,
        draws := s.draws + 2 } := by
  have hmoves : ¬(col.toNat = s.cursorCol ∧ row.toNat = s.cursorRow) := by omega
  exact next_hostOp_faults (checkArguments_position hs hcol hrow) (setCursor_failed hmoves ha)

end

/-- Settles O23: the raw arguments are compared with the stored position, then wrapped, and a failed command's draw is a
remainder by the geometry. -/
theorem setCursorDeduplicatesWrapsAndSends : Obligations.SetCursorDeduplicatesWrapsAndSends := by
  intro s col row hs hcol0 hcol hrow0 hrow
  dsimp only
  split
  · next hsame => exact exec_setCursor_stored hs ⟨hcol0, hcol⟩ ⟨hrow0, hrow⟩ hsame
  · next hmoves =>
    refine ⟨fun hcloses => exec_setCursor_moves hs ⟨hcol0, hcol⟩ ⟨hrow0, hrow⟩ hmoves (hcloses 0 Nat.one_pos),
      fun hfail hcolumns hlines => ?_⟩
    exact ⟨_, _, Nat.mod_lt _ hcolumns, Nat.mod_lt _ hlines,
      exec_setCursor_faults hs ⟨hcol0, hcol⟩ ⟨hrow0, hrow⟩ hmoves hfail⟩

/-- With arguments in their domains only the mode is checked. -/
theorem checkArguments_true (s : State) : checkArguments true s = checkInitialized s := by
  cases hs : s.initialized with
  | false => rw [checkArguments_of_not hs, checkInitialized_of_not hs]
  | true => rw [checkArguments_inDomain hs rfl, checkInitialized_of_initialized hs]

/-- `home` is `setCursor 0, 0` in every state (R113): the bodies are the same, and (0, 0) passes the argument check. -/
theorem exec_home_eq_setCursor (s : State) : exec .home s = exec (.setCursor 0 0) s := by
  have hcheck : checkArguments (argInDomain 0 && argInDomain 0) = checkInitialized := funext checkArguments_true
  change execHome s = execSetCursor 0 0 s
  rw [execSetCursor, hcheck]
  rfl

/-- Settles O24: (0, 0) is its own wrapped position in any geometry, and its command is 0x80. -/
theorem homeIsSetCursorZeroZero : Obligations.HomeIsSetCursorZeroZero := by
  intro s
  refine ⟨exec_home_eq_setCursor s, fun hs => ⟨fun hcol hrow => ?_, fun hmoves hcloses => ?_⟩⟩
  · rw [exec_home_eq_setCursor]
    exact exec_setCursor_stored hs (by decide) (by decide) (by omega)
  · rw [exec_home_eq_setCursor, exec_setCursor_moves hs (by decide) (by decide) (by omega) (hcloses 0 Nat.one_pos),
      Int.toNat_zero, Nat.zero_mod, Nat.zero_mod, ddramCmd_zero]
    rfl

/-- Settles O25: a completed call within the geometry stores its arguments unwrapped, so that the second call is to the stored
position. -/
theorem repeatedSetCursorEmitsNothing : Obligations.RepeatedSetCursorEmitsNothing := by
  intro s t col row hs hcol0 hcol hrow0 hrow hcolumns hlines hcloses e
  suffices hstored : t.initialized = true ∧ col = t.cursorCol ∧ row = t.cursorRow from
    exec_setCursor_stored hstored.1 ⟨hcol0, hcol⟩ ⟨hrow0, hrow⟩ hstored.2
  by_cases hsame : col = s.cursorCol ∧ row = s.cursorRow
  · rw [exec_setCursor_stored hs ⟨hcol0, hcol⟩ ⟨hrow0, hrow⟩ hsame] at e
    cases e
    exact ⟨hs, hsame⟩
  · have hwrapped : col.toNat % s.columns = col.toNat ∧ row.toNat % s.lines = row.toNat :=
      ⟨Nat.mod_eq_of_lt (by omega), Nat.mod_eq_of_lt (by omega)⟩
    rw [exec_setCursor_moves hs ⟨hcol0, hcol⟩ ⟨hrow0, hrow⟩ hsame (hcloses 0 Nat.one_pos), hwrapped.1, hwrapped.2] at e
    cases e
    exact ⟨hs, (Int.toNat_of_nonneg hcol0).symm, (Int.toNat_of_nonneg hrow0).symm⟩

end Sys2Proof.Machine
end

section
/-! PROOFS. The reset sequence (40_display_state.md R126) as a list of transactions run in order: `reinitialize` is the run of
`resetTxs`, and a run either goes through or is cut at its first failed close. -/

namespace Sys2Proof.Machine

/-! ## A list of transactions -/

/-- One transaction of a sequence: the waits before it and its bytes. -/
structure SeqTx where
  waits : List Nat
  bytes : List Byte

/-- Its events, with the bus's answer to its close. -/
def SeqTx.events (tx : SeqTx) (ok : Bool) : List Event := tx.waits.map Event.wait ++ txEvents tx.bytes ok

/-- The events of a transaction before its close. -/
def SeqTx.opened (tx : SeqTx) : List Event := tx.waits.map Event.wait ++ .txBegin Config.devAddr :: tx.bytes.map Event.txByte

/-- The events of a sequence whose closes all succeed. -/
def seqEvents (txs : List SeqTx) : List Event := txs.flatMap (·.events true)

/-- The events of a sequence before close number `k`, the closes before it successful. -/
def eventsBefore (txs : List SeqTx) {k : Nat} (hk : k < txs.length) : List Event := seqEvents (txs.take k) ++ txs[k].opened

/-- Run one transaction that ends on RS = 0. -/
def runTx (tx : SeqTx) (s : State) : Run :=
  if s.answerAt 0 then .done (s.after (tx.events true) 1 false) else .failed (s.after (tx.events false) 1 false)

/-- Run the transactions in order, up to the first failed close. -/
def runTxs : List SeqTx → State → Run
  | [], s => .done s
  | tx :: txs, s => (runTx tx s).andThen (runTxs txs)

@[simp] theorem seqEvents_cons (tx : SeqTx) (txs : List SeqTx) : seqEvents (tx :: txs) = tx.events true ++ seqEvents txs := rfl

theorem SeqTx.events_eq (tx : SeqTx) (ok : Bool) : tx.events ok = tx.opened ++ [.txEnd ok] := by
  simp [SeqTx.events, SeqTx.opened, txEvents]

theorem runTx_done {s : State} (ha : s.answerAt 0 = true) (tx : SeqTx) :
    runTx tx s = .done (s.after (tx.events true) 1 false) := if_pos ha

theorem runTx_failed {s : State} (ha : s.answerAt 0 = false) (tx : SeqTx) :
    runTx tx s = .failed (s.after (tx.events false) 1 false) := if_neg (by simp [ha])

theorem State.ClosesOk.after {s : State} {n m : Nat} (h : s.ClosesOk (n + m)) (evs : List Event) (rs : Bool) :
    (s.after evs n rs).ClosesOk m := fun k hk => by
  rw [State.answerAt_after]
  exact h (n + k) (by omega)

theorem State.after_nil (s : State) : s.after [] 0 s.lastRS = s := by
  simp [State.after]

/-- A sequence whose closes all succeed goes through with all its events; it ends on RS = 0 unless it is empty. -/
theorem runTxs_done (txs : List SeqTx) {s : State} (h : s.ClosesOk txs.length) :
    runTxs txs s = .done (s.after (seqEvents txs) txs.length (txs.isEmpty && s.lastRS)) := by
  induction txs generalizing s with
  | nil => simp [runTxs, seqEvents, State.after_nil]
  | cons tx txs ih =>
    have hrest : s.ClosesOk (1 + txs.length) := by rwa [Nat.add_comm]
    rw [runTxs, runTx_done (h 0 (Nat.succ_pos _)), Run.andThen_done, ih (hrest.after _ _), State.after_after]
    simp [Nat.add_comm]

/-- A sequence is cut at its first failed close: the transactions before it are whole. -/
theorem runTxs_failed (txs : List SeqTx) {s : State} {k : Nat} (hk : k < txs.length) (h : s.ClosesOk k)
    (hfail : s.answerAt k = false) :
    runTxs txs s = .failed (s.after (eventsBefore txs hk ++ [.txEnd false]) (k + 1) false) := by
  induction txs generalizing s k with
  | nil => exact absurd hk (Nat.not_lt_zero k)
  | cons tx txs ih =>
    cases k with
    | zero => rw [runTxs, runTx_failed hfail, SeqTx.events_eq]; rfl
    | succ k =>
      have hrest : s.ClosesOk (1 + k) := by rwa [Nat.add_comm]
      have hfail' : (s.after (tx.events true) 1 false).answerAt k = false := by rwa [State.answerAt_after, Nat.add_comm]
      rw [runTxs, runTx_done (h 0 (Nat.succ_pos _)), Run.andThen_done, ih (Nat.lt_of_succ_lt_succ hk) (hrest.after _ _) hfail',
        State.after_after]
      simp [eventsBefore, Nat.add_comm]

/-! ## What a sequence's events hold -/

theorem SeqTx.opened_noClose (tx : SeqTx) : tx.opened.countP isClose = 0 := by
  simp [SeqTx.opened, isClose]

theorem SeqTx.opened_noFailure (tx : SeqTx) : tx.opened.any isFailedClose = false := by
  simp [SeqTx.opened, isFailedClose]

theorem SeqTx.opened_waits (tx : SeqTx) : (tx.opened.filter isWait).length = tx.waits.length := by
  simp [SeqTx.opened, isWait, List.filter_map, Function.comp_def]

theorem seqEvents_closes (txs : List SeqTx) : (seqEvents txs).countP isClose = txs.length := by
  induction txs with
  | nil => rfl
  | cons tx txs ih =>
    rw [seqEvents_cons, SeqTx.events_eq, List.countP_append, List.countP_append, tx.opened_noClose, ih, List.length_cons,
      Nat.add_comm]
    rfl

theorem seqEvents_noFailure (txs : List SeqTx) : (seqEvents txs).any isFailedClose = false := by
  induction txs with
  | nil => rfl
  | cons tx txs ih =>
    rw [seqEvents_cons, SeqTx.events_eq, List.any_append, List.any_append, tx.opened_noFailure, ih]
    rfl

theorem seqEvents_waits (txs : List SeqTx) :
    ((seqEvents txs).filter isWait).length = (txs.map (·.waits.length)).sum := by
  induction txs with
  | nil => rfl
  | cons tx txs ih =>
    rw [seqEvents_cons, SeqTx.events_eq, List.filter_append, List.filter_append, List.length_append, List.length_append,
      tx.opened_waits, ih]
    rfl

theorem eventsBefore_noFailure (txs : List SeqTx) {k : Nat} (hk : k < txs.length) :
    (eventsBefore txs hk).any isFailedClose = false := by
  rw [eventsBefore, List.any_append, seqEvents_noFailure, SeqTx.opened_noFailure]; rfl

theorem eventsBefore_closes (txs : List SeqTx) {k : Nat} (hk : k < txs.length) : (eventsBefore txs hk).countP isClose = k := by
  rw [eventsBefore, List.countP_append, seqEvents_closes, SeqTx.opened_noClose, List.length_take_of_le hk.le, Nat.add_zero]

/-- The sequence's events are those before close number `k`, that close, and the rest. -/
theorem seqEvents_split (txs : List SeqTx) {k : Nat} (hk : k < txs.length) :
    seqEvents txs = eventsBefore txs hk ++ .txEnd true :: seqEvents (txs.drop (k + 1)) := by
  have hsplit : txs = txs.take k ++ txs[k] :: txs.drop (k + 1) := by
    rw [← List.drop_eq_getElem_cons hk, List.take_append_drop]
  have hflat : seqEvents txs = seqEvents (txs.take k) ++ (txs[k].events true ++ seqEvents (txs.drop (k + 1))) := by
    conv_lhs => rw [hsplit]
    exact List.flatMap_append
  rw [hflat, SeqTx.events_eq]
  simp [eventsBefore]

/-! ## `reinitialize` as a sequence -/

/-- The six transactions of the reset sequence from register-select level `last`, the first wait before the third (R126). -/
def resetTxs (bl last : Bool) (lines : Nat) (em dc : Byte) : List SeqTx :=
  [⟨[], sendBytes bl last clearCmd false⟩, ⟨[], nibbleBytes bl false Config.nibble4bit⟩,
    ⟨[Config.settle1], sendBytes bl false (functionSetCmd lines) false⟩, ⟨[], sendBytes bl false (entryModeCmd em) false⟩,
    ⟨[], sendBytes bl false (displayControlCmd dc) false⟩, ⟨[], sendBytes bl false clearCmd false⟩]

/-- The transactions of a reset sequence that starts in `s`. -/
def State.resetTxs (s : State) : List SeqTx := Machine.resetTxs s.bl s.lastRS s.lines s.entryMode s.displayControl

theorem command_eq_runTx (b : Byte) (s : State) : command b s = runTx ⟨[], sendBytes s.bl s.lastRS b false⟩ s :=
  send_eq b false s

theorem sendNibble_eq_runTx (n : Nibble) (s : State) : sendNibble n s = runTx ⟨[], nibbleBytes s.bl s.lastRS n⟩ s :=
  sendNibble_eq n s

/-- A command after a wait. -/
theorem command_wait_eq_runTx (b : Byte) (us : Nat) (s : State) :
    command b (wait us s) = runTx ⟨[us], sendBytes s.bl s.lastRS b false⟩ s := by
  have hafter (ok : Bool) : (wait us s).after (txEvents (sendBytes s.bl s.lastRS b false) ok) 1 false =
      s.after (SeqTx.events ⟨[us], sendBytes s.bl s.lastRS b false⟩ ok) 1 false := by
    simp [wait, State.emit, State.after, SeqTx.events]
  rw [command_eq_runTx, runTx, runTx, ← hafter, ← hafter]
  rfl

/-- What follows a transaction only has to agree on the state after it. -/
theorem runTx_andThen_congr {tx : SeqTx} {s : State} {f g : State → Run}
    (h : f (s.after (tx.events true) 1 false) = g (s.after (tx.events true) 1 false)) :
    (runTx tx s).andThen f = (runTx tx s).andThen g := by
  cases ha : s.answerAt 0 with
  | false => rw [runTx_failed ha]; rfl
  | true => rw [runTx_done ha]; exact h

theorem Run.andThen_assoc (r : Run) (f g : State → Run) : (r.andThen f).andThen g = r.andThen fun s => (f s).andThen g := by
  cases r <;> rfl

/-- The reset sequence is its six transactions, then the second wait and the cursor's reset (R126, D14). -/
theorem reinitialize_eq (s : State) :
    reinitialize s = (runTxs s.resetTxs s).thenUpdate fun t => (wait Config.settle2 t).setCursorPos 0 0 := by
  simp only [State.resetTxs, resetTxs, runTxs, Run.thenUpdate, Run.andThen_assoc]
  rw [reinitialize, command_eq_runTx]
  refine runTx_andThen_congr ?_
  rw [sendNibble_eq_runTx]
  refine runTx_andThen_congr ?_
  rw [command_wait_eq_runTx]
  refine runTx_andThen_congr ?_
  rw [command_eq_runTx]
  refine runTx_andThen_congr ?_
  rw [command_eq_runTx]
  refine runTx_andThen_congr ?_
  rw [command_eq_runTx]
  rfl

/-- `reinitEvents` is the events of the six transactions and the second wait. -/
theorem reinitEvents_eq (s : State) :
    reinitEvents s.bl s.lastRS s.lines s.entryMode s.displayControl = seqEvents s.resetTxs ++ [.wait Config.settle2] := by
  have hfunctionSet : (if s.lines > 1 then 0x28#8 else 0x20#8) = functionSetCmd s.lines := by
    rw [functionSetCmd]; split <;> rfl
  simp [reinitEvents, hfunctionSet, seqEvents, State.resetTxs, resetTxs, SeqTx.events, sendEvents, nibbleEvents, clearCmd,
    Config.nibble4bit, entryModeCmd, displayControlCmd]

/-- With six closes that succeed the reset sequence goes through. -/
theorem reinitialize_done {s : State} (h : s.ClosesOk 6) :
    reinitialize s = .done
      ((s.after (reinitEvents s.bl s.lastRS s.lines s.entryMode s.displayControl) 6 false).setCursorPos 0 0) := by
  rw [reinitialize_eq, runTxs_done s.resetTxs h, Run.thenUpdate_done, wait_after, reinitEvents_eq]
  rfl

/-- The reset sequence is cut at its first failed close. -/
theorem reinitialize_failed {s : State} {k : Nat} (hk : k < s.resetTxs.length) (h : s.ClosesOk k)
    (hfail : s.answerAt k = false) :
    reinitialize s = .failed (s.after (eventsBefore s.resetTxs hk ++ [.txEnd false]) (k + 1) false) := by
  rw [reinitialize_eq, runTxs_failed s.resetTxs hk h hfail, Run.thenUpdate_failed]

/-- Up to close number `k` the sequence has waited once if the force nibble, its second transaction, went through. -/
theorem resetTxs_waits {s : State} {k : Nat} (hk : k < s.resetTxs.length) :
    ((eventsBefore s.resetTxs hk).filter isWait).length = if k ≤ 1 then 0 else 1 := by
  rw [eventsBefore, List.filter_append, List.length_append, seqEvents_waits, SeqTx.opened_waits]
  have hk6 : k < 6 := hk
  interval_cases k <;> rfl

/-- Settles O26: the six transactions and both waits go through, then the cursor is reset without a command. -/
theorem reinitializeCompletes : Obligations.ReinitializeCompletes := fun _ hs hcloses =>
  next_hostOp_completes (checkInitialized_of_initialized hs) (reinitialize_done hcloses)

/-- Settles O27: the sequence is cut at close number `k`, and the failure then draws the cursor only. -/
theorem reinitializeStopsAtTheFirstFailedClose : Obligations.ReinitializeStopsAtTheFirstFailedClose := by
  intro s k hs hk hcloses hfail
  have hk' : k < s.resetTxs.length := hk
  have hexec : exec .reinitialize s = _ :=
    next_hostOp_faults (checkInitialized_of_initialized hs) (reinitialize_failed hk' hcloses hfail)
  have hevents : reinitEvents s.bl s.lastRS s.lines s.entryMode s.displayControl =
      eventsBefore s.resetTxs hk' ++ .txEnd true :: (seqEvents (s.resetTxs.drop (k + 1)) ++ [.wait Config.settle2]) := by
    rw [reinitEvents_eq, seqEvents_split s.resetTxs hk', List.append_assoc, List.cons_append]
  exact ⟨_, _, _, hexec, (List.append_assoc _ _ _).symm, eventsBefore_noFailure _ hk', hevents, eventsBefore_closes _ hk', rfl,
    rfl, rfl, rfl, rfl, rfl, rfl, rfl, rfl, resetTxs_waits hk'⟩

/-! ## `initializeBlock` (R127) -/

theorem checkInitialize_of_not {s : State} (h : s.initialized = false) (c l : Int) :
    checkInitialize c l s = if geometryInDomain c l then none else some .geometryOutOfDomain := by
  rw [checkInitialize, if_neg (by simp [h])]

/-- Settles O28: with the geometry and the defaults stored, the body is the reset sequence. -/
theorem initializeCompletes : Obligations.InitializeCompletes := by
  intro s c l hs hc1 hc2 hl1 hl2 hcloses
  have hcheck : checkInitialize c l s = none := by
    rw [checkInitialize_of_not hs, if_pos ((geometryInDomain_iff c l).mpr ⟨hc1, hc2, hl1, hl2⟩)]
  have hset : ((((s.setGeometry c.toNat l.toNat).setEntryMode Config.defaultEntry).setDisplayControl
      Config.defaultDC).setInitialized).ClosesOk 6 := hcloses
  exact next_hostOp_completes hcheck (reinitialize_done hset)

/-- Settles O42: the mode is checked before the geometry. -/
theorem initializeIsRefusedTwiceAndOutOfDomain : Obligations.InitializeIsRefusedTwiceAndOutOfDomain := by
  intro s c l
  refine ⟨fun hs => next_hostOp_refused (checkInitialize_of_initialized hs c l), fun hs hgeometry => ?_⟩
  have hcheck : checkInitialize c l s = some .geometryOutOfDomain := by
    rw [checkInitialize_of_not hs, if_neg (by rwa [geometryInDomain_iff])]
  exact next_hostOp_refused hcheck

end Sys2Proof.Machine
end

section
/-! PROOFS. Frames of the display state's operations: a reading of the state that neither the bus nor the handing over of an outcome
touches is kept by every host operation whose body and draw keep it, however it ends. -/

namespace Sys2Proof.Machine

/-- A reading of the state that no transaction, no mark and no outcome changes. -/
structure OffBus {α : Type} (f : State → α) : Prop where
  tx : ∀ s bs ok n rs, f (s.after (txEvents bs ok) n rs) = f s
  busFault : ∀ s, f s.setBusFault = f s
  refused : ∀ s, f s.setRefused = f s
  outcome : ∀ s o, f (s.pushOutcome o) = f s

namespace OffBus

variable {α : Type} {f : State → α}

/-- That the reading is the same is a preorder on states that every transaction keeps. -/
theorem busRel (h : OffBus f) : BusRel fun s t => f t = f s where
  refl _ := rfl
  trans e e' := e'.trans e
  tx := h.tx

theorem hostOp (h : OffBus f) {check : State → Option Refusal} {draw : State → State} {ret : Option Nat} {body : State → Run}
    {s : State} (hd : ∀ t, f (draw t) = f t) (hb : (body s).All fun t => f t = f s) : f (hostOp check draw ret body s) = f s := by
  have hfailed (t : State) : f (busFailure draw t) = f t := ((h.outcome _ _).trans (hd _)).trans (h.busFault t)
  have hrefused (t : State) (r : Refusal) : f (t.turnedAway r) = f t := (h.outcome t.setRefused _).trans (h.refused t)
  exact h.busRel.hostOp hb hfailed hrefused fun t _ => h.outcome t _

end OffBus

/-! ## Mutators (R114 to R123) -/

/-- What a display-control mutator leaves. -/
def displayControlFrame (s : State) :=
  (s.initialized, s.columns, s.lines, s.entryMode, s.cursorRow, s.cursorCol, s.backlightLevel, s.input)

theorem displayControlFrame_offBus : OffBus displayControlFrame :=
  ⟨fun _ _ _ _ _ => rfl, fun _ => rfl, fun _ => rfl, fun _ _ => rfl⟩

/-- Storing or drawing the display control writes no other field, and the rest of the mutator is one command. -/
theorem displayControlMutator_frame (f : Byte → Byte) (s : State) :
    displayControlFrame (hostOp checkInitialized drawDisplayControl none (mutateDisplayControl f) s) = displayControlFrame s :=
  have hset : displayControlFrame (s.setDisplayControl (f s.displayControl)) = displayControlFrame s := rfl
  displayControlFrame_offBus.hostOp (fun _ => rfl)
    (displayControlFrame_offBus.busRel.before hset (displayControlFrame_offBus.busRel.command _ _))

/-- Settles O50: every display-control mutator is the one shared operation at its flag. -/
theorem displayControlMutatorsFrame : Obligations.DisplayControlMutatorsFrame := by
  intro i s t hi e
  have hshared : ∀ i ∈ [Instr.displayOn, .displayOff, .cursorOn, .cursorOff, .blinkOn, .blinkOff],
      ∃ f, exec i s = .next (hostOp checkInitialized drawDisplayControl none (mutateDisplayControl f) s) := by
    simp only [List.forall_mem_cons]
    exact ⟨⟨_, rfl⟩, ⟨_, rfl⟩, ⟨_, rfl⟩, ⟨_, rfl⟩, ⟨_, rfl⟩, ⟨_, rfl⟩, nofun⟩
  obtain ⟨f, hf⟩ := hshared i hi
  cases hf.symm.trans e
  simpa only [displayControlFrame, Prod.mk.injEq] using displayControlMutator_frame f s

/-- What an entry-mode mutator leaves. -/
def entryModeFrame (s : State) :=
  (s.initialized, s.columns, s.lines, s.displayControl, s.cursorRow, s.cursorCol, s.backlightLevel, s.input)

theorem entryModeFrame_offBus : OffBus entryModeFrame :=
  ⟨fun _ _ _ _ _ => rfl, fun _ => rfl, fun _ => rfl, fun _ _ => rfl⟩

/-- Storing or drawing the entry mode writes no other field, and the rest of the mutator is one command. -/
theorem entryModeMutator_frame (f : Byte → Byte) (s : State) :
    entryModeFrame (hostOp checkInitialized drawEntryMode none (mutateEntryMode f) s) = entryModeFrame s :=
  have hset : entryModeFrame (s.setEntryMode (f s.entryMode)) = entryModeFrame s := rfl
  entryModeFrame_offBus.hostOp (fun _ => rfl)
    (entryModeFrame_offBus.busRel.before hset (entryModeFrame_offBus.busRel.command _ _))

/-- Settles O51: every entry-mode mutator is the one shared operation at its flag. -/
theorem entryModeMutatorsFrame : Obligations.EntryModeMutatorsFrame := by
  intro i s t hi e
  have hshared : ∀ i ∈ [Instr.leftToRight, .rightToLeft, .autoscrollOn, .autoscrollOff],
      ∃ f, exec i s = .next (hostOp checkInitialized drawEntryMode none (mutateEntryMode f) s) := by
    simp only [List.forall_mem_cons]
    exact ⟨⟨_, rfl⟩, ⟨_, rfl⟩, ⟨_, rfl⟩, ⟨_, rfl⟩, nofun⟩
  obtain ⟨f, hf⟩ := hshared i hi
  cases hf.symm.trans e
  simpa only [entryModeFrame, Prod.mk.injEq] using entryModeMutator_frame f s

/-! ## The operations that move the cursor -/

/-- What an operation that moves the cursor leaves. -/
def cursorFrame (s : State) :=
  (s.initialized, s.columns, s.lines, s.entryMode, s.displayControl, s.backlightLevel, s.input)

theorem cursorFrame_offBus : OffBus cursorFrame :=
  ⟨fun _ _ _ _ _ => rfl, fun _ => rfl, fun _ => rfl, fun _ _ => rfl⟩

/-- Settles O52: each of these is a `hostOp` that draws the cursor, and its body is made of transactions, waits and cursor moves. -/
theorem cursorOperationsFrame : Obligations.CursorOperationsFrame := by
  intro i s t hi e
  have h := cursorFrame_offBus.busRel
  have hmove (u : State) (c r : Nat) : cursorFrame (u.setCursorPos c r) = cursorFrame u := rfl
  have hwait (u : State) (us : Nat) : cursorFrame (wait us u) = cursorFrame u := rfl
  have frame {check : State → Option Refusal} {ret : Option Nat} {body : State → Run}
      (hbody : (body s).All fun u => cursorFrame u = cursorFrame s) :
      ∃ u, (.next (hostOp check drawCursor ret body s) : Host.Outcome State Fault Refusal) = .next u ∧
        cursorFrame u = cursorFrame s :=
    ⟨_, rfl, cursorFrame_offBus.hostOp (fun _ => rfl) hbody⟩
  have hreset := h.reinitialize hmove hwait s
  have hset (c r : Nat) := h.setCursor hmove c r s
  have hfixed : ∀ i ∈ [Instr.home, .reinitialize, .charReinit, .charHome, .charClrEol, .charCr, .charLf],
      ∃ u, exec i s = .next u ∧ cursorFrame u = cursorFrame s := by
    simp only [List.forall_mem_cons]
    exact ⟨frame (hset 0 0), frame hreset, frame hreset, frame (hset 0 0), frame (h.clearToEol hmove s),
      frame (hset 0 s.cursorRow), frame (hset s.cursorCol (s.cursorRow + 1)), nofun⟩
  have hany : ∃ u, exec i s = .next u ∧ cursorFrame u = cursorFrame s := by
    obtain hi | ⟨col, row, rfl⟩ | ⟨ch, rfl⟩ | ⟨ch, rfl⟩ := hi
    · exact hfixed i hi
    · exact frame (hset col.toNat row.toNat)
    · exact frame (h.write hmove hwait ch s)
    · exact frame (h.glyph hmove ch s)
  obtain ⟨u, hu, hframe⟩ := hany
  cases hu.symm.trans e
  simpa only [cursorFrame, Prod.mk.injEq] using hframe

/-! ## Scrolls and `createChar` -/

/-- The DisplayState fields, the pending inputs and the count of draws: what an operation without a field of its own leaves. -/
def displayFrame (s : State) :=
  (s.initialized, s.columns, s.lines, s.entryMode, s.displayControl, s.cursorRow, s.cursorCol, s.backlightLevel, s.input, s.draws)

theorem displayFrame_offBus : OffBus displayFrame :=
  ⟨fun _ _ _ _ _ => rfl, fun _ => rfl, fun _ => rfl, fun _ _ => rfl⟩

/-- Settles O53: these are transactions only, and a failed one draws nothing (60_exceptions.md R213). -/
theorem scrollsAndCreateCharFrame : Obligations.ScrollsAndCreateCharFrame := by
  intro i s t hi e
  have h := displayFrame_offBus.busRel
  have frame {check : State → Option Refusal} {ret : Option Nat} {body : State → Run}
      (hbody : (body s).All fun u => displayFrame u = displayFrame s) :
      ∃ u, (.next (hostOp check drawNothing ret body s) : Host.Outcome State Fault Refusal) = .next u ∧
        displayFrame u = displayFrame s :=
    ⟨_, rfl, displayFrame_offBus.hostOp (fun _ => rfl) hbody⟩
  have hscrolls : ∀ i ∈ [Instr.scrollLeft, .scrollRight], ∃ u, exec i s = .next u ∧ displayFrame u = displayFrame s := by
    simp only [List.forall_mem_cons]
    exact ⟨frame (h.command _ s), frame (h.command _ s), nofun⟩
  have hany : ∃ u, exec i s = .next u ∧ displayFrame u = displayFrame s := by
    obtain hi | ⟨slot, p, rfl⟩ := hi
    · exact hscrolls i hi
    · exact frame (h.createChar slot.toNat p s)
  obtain ⟨u, hu, hframe⟩ := hany
  cases hu.symm.trans e
  simpa only [displayFrame, Prod.mk.injEq] using hframe

end Sys2Proof.Machine
end

section
/-! PROOFS. The nibble transport (41_nibble_transport.md): an internal operation is one transaction however its close ends
(`State.transacted`), and the byte lists of R157 are read back frame by frame. -/

namespace Sys2Proof.Machine

/-! ## One transaction, however its close ends -/

/-- `s` after one transaction of `bytes` that the bus closes with its next answer: a failure sets the sticky flag
(60_exceptions.md R212). -/
def State.transacted (s : State) (bytes : List Byte) (rs : Bool) : State :=
  { s.after (txEvents bytes (s.answerAt 0)) 1 rs with busFault := s.busFault || !s.answerAt 0 }

/-- An internal operation whose body is one transaction. -/
theorem internalOp_of_transaction {body : State → Run} {s : State} {bytes : List Byte} {rs : Bool}
    (h : body s = if s.answerAt 0 then .done (s.after (txEvents bytes true) 1 rs)
      else .failed (s.after (txEvents bytes false) 1 rs)) :
    internalOp body s = s.transacted bytes rs := by
  cases ha : s.answerAt 0 with
  | true => simp [internalOp, h, ha, State.transacted, State.after]
  | false => simp [internalOp, h, ha, State.transacted, State.setBusFault]

theorem exec_send (v : Byte) (d : Bool) (s : State) :
    exec (.send v d) s = .next (s.transacted (sendBytes s.bl s.lastRS v d) d) :=
  congrArg _ (internalOp_of_transaction (send_eq v d s))

theorem exec_sendNibble (n : Nibble) (s : State) :
    exec (.sendNibble n) s = .next (s.transacted (nibbleBytes s.bl s.lastRS n) false) :=
  congrArg _ (internalOp_of_transaction (sendNibble_eq n s))

/-- A successful close leaves the sticky flag alone. -/
theorem State.transacted_of_ok {s : State} (h : s.answerAt 0 = true) (bytes : List Byte) (rs : Bool) :
    s.transacted bytes rs = s.after (txEvents bytes true) 1 rs := by
  simp [State.transacted, h, State.after]

/-- Settles O12: the transaction of each send, its close answered with success. -/
theorem sendsComplete : Obligations.SendsComplete := by
  refine ⟨fun s v d hs => ?_, fun s n hs => ?_⟩
  · rw [exec_send, State.transacted_of_ok (hs 0 Nat.one_pos)]; rfl
  · rw [exec_sendNibble, State.transacted_of_ok (hs 0 Nat.one_pos)]; rfl

/-- Settles O13: the byte lists of R157 are those of the transactions. -/
theorem transactionByteLists : Obligations.TransactionByteLists :=
  ⟨fun s v d => ⟨_, exec_send v d s, rfl⟩, fun s n => ⟨_, exec_sendNibble n s, rfl⟩⟩

/-- Settles O17: the transaction is built from the backlight bit, `lastRS` and the bus's answer. -/
theorem sendReadsOnlyBacklightAndLastRS : Obligations.SendReadsOnlyBacklightAndLastRS := by
  intro s s' v d hbl hrs hanswer
  have hbl' : s.bl = s'.bl := hbl
  have hevents : txEvents (sendBytes s'.bl s'.lastRS v d) (s'.answerAt 0) =
      txEvents (sendBytes s.bl s.lastRS v d) (s.answerAt 0) := by rw [hbl', hrs, hanswer]
  exact ⟨_, _, _, exec_send v d s, exec_send v d s', rfl, congrArg (s'.trace ++ ·) hevents, rfl⟩

/-! ## The pre-write (R155) -/

theorem txEvents_length (bytes : List Byte) (ok : Bool) : (txEvents bytes ok).length = bytes.length + 2 := by
  simp [txEvents]

theorem sendBytes_length (bl last : Bool) (v : Byte) (d : Bool) :
    (sendBytes bl last v d).length = if d = last then 4 else 5 := by
  by_cases h : d = last <;> simp [sendBytes, h]

/-- A `send` lengthens the trace by its open, its bytes and its close. -/
theorem transacted_sendBytes_trace_length (s : State) (v : Byte) (d : Bool) :
    (s.transacted (sendBytes s.bl s.lastRS v d) d).trace.length = s.trace.length + 2 + if d = s.lastRS then 4 else 5 := by
  have hevents : (s.transacted (sendBytes s.bl s.lastRS v d) d).trace =
      s.trace ++ txEvents (sendBytes s.bl s.lastRS v d) (s.answerAt 0) := rfl
  rw [hevents, List.length_append, txEvents_length, sendBytes_length]
  omega

/-- Settles O16: the first `send` leaves `lastRS` at its own register select, however it closes. -/
theorem preWriteExactlyWhenRegisterSelectChanges : Obligations.PreWriteExactlyWhenRegisterSelectChanges := by
  intro s t u v w d e ht hu
  cases (exec_send v d s).symm.trans ht
  cases (exec_send w e _).symm.trans hu
  exact ⟨transacted_sendBytes_trace_length s v d, transacted_sendBytes_trace_length _ w e⟩

/-! ## Frames (R150, 30_encoding.md R80) -/

/-- Settles O11: the frame is built with the backlight bit of the level held. -/
theorem frameCarriesNibbleBacklightAndRegisterSelect : Obligations.FrameCarriesNibbleBacklightAndRegisterSelect :=
  fun _ n d => frameByte_fields _ n d

/-- The word of a FRAME row is the pattern R80 prints. -/
theorem frameWord_pattern (n : Nibble) (b e r : Bool) :
    frameWord n b e r = (n ++ BitVec.ofBool b ++ BitVec.ofBool e ++ 0b0#1 ++ BitVec.ofBool r : BitVec 8) := by
  revert n; cases b <;> cases e <;> cases r <;> decide

/-- Settles O10: the strobe is appended alone or after the pre-write, and a frame row is the one byte of its word. -/
theorem nibbleWriteAndFrameComplete : Obligations.NibbleWriteAndFrameComplete := by
  refine ⟨fun s n d => congrArg Host.Outcome.next ?_, fun s n b e r => ?_⟩
  · rw [writeNibble_eq]
    by_cases h : d = s.lastRS <;> simp [h]
  · rw [← frameWord_pattern]; rfl

@[simp] theorem frameByte_en (bl : Bool) (n : Nibble) (d : Bool) : (frameByte bl n d)[2] = false := by
  revert n; cases bl <;> cases d <;> decide

theorem frameByte_backlight (bl : Bool) (n : Nibble) (d : Bool) : (frameByte bl n d).getLsbD 3 = bl := by
  revert n; cases bl <;> cases d <;> decide

/-- Raising EN leaves the nibble alone. -/
theorem highNibble_or_en (f : Byte) : highNibble (f ||| 0x04#8) = highNibble f := by
  simp [highNibble, BitVec.extractLsb'_or]

/-! ## The bytes of a `send` (R156) -/

/-- The bytes with EN = 1 carry the high nibble, then the low one. -/
theorem sendBytes_enableHigh (bl last : Bool) (v : Byte) (d : Bool) :
    ((sendBytes bl last v d).filter fun b => b.getLsbD 2).map highNibble = [highNibble v, lowNibble v] := by
  by_cases h : d = last <;> simp [sendBytes, h, highNibble_or_en, highNibble_frameByte]

/-- What holds of every frame of the register select, with EN low and with EN high, holds of every byte. -/
theorem forall_mem_sendBytes {p : Byte → Prop} {bl d : Bool} (hlow : ∀ n, p (frameByte bl n d))
    (hhigh : ∀ n, p (frameByte bl n d ||| 0x04#8)) (last : Bool) (v : Byte) : ∀ b ∈ sendBytes bl last v d, p b := by
  unfold sendBytes
  split <;> simp [hlow, hhigh]

/-- Settles O14: the two strobes carry the halves of the byte, and a frame's control bits do not depend on its nibble. -/
theorem sendRoundTrip : Obligations.SendRoundTrip := by
  intro s v d
  refine ⟨_, sendBytes s.bl s.lastRS v d, exec_send v d s, rfl,
    ⟨highNibble v, lowNibble v, sendBytes_enableHigh _ _ _ _, halves_join v⟩, ?_⟩
  have hframe (n : Nibble) : (frameByte s.bl n d).getLsbD 0 = d ∧ (frameByte s.bl n d).getLsbD 3 = s.bl :=
    ⟨rsOf_frameByte _ _ _, frameByte_backlight _ _ _⟩
  exact forall_mem_sendBytes hframe (fun n => by simpa [State.bl] using hframe n) _ v

/-! ## Delivered nibbles (R160) -/

/-- A byte with EN low starts no fall. -/
theorem deliveredNibbles_cons_of_en_low {x : Byte} (h : x[2] = false) (rest : List Byte) :
    deliveredNibbles (x :: rest) = deliveredNibbles rest := by
  cases rest with
  | nil => rfl
  | cons y rest => simp [deliveredNibbles, Config.bitEN, h]

theorem deliveredNibbles_frame (bl : Bool) (n : Nibble) (d : Bool) (rest : List Byte) :
    deliveredNibbles (frameByte bl n d :: rest) = deliveredNibbles rest :=
  deliveredNibbles_cons_of_en_low (frameByte_en bl n d) rest

/-- A strobe delivers the nibble and the register select of its frame. -/
theorem deliveredNibbles_strobe (bl : Bool) (n : Nibble) (d : Bool) (rest : List Byte) :
    deliveredNibbles ((frameByte bl n d ||| 0x04#8) :: frameByte bl n d :: rest) = (n, d) :: deliveredNibbles rest := by
  have hrs : (frameByte bl n d).getLsbD Config.bitRS = d := rsOf_frameByte bl n d
  simp [deliveredNibbles, Config.bitEN, highNibble_frameByte, hrs, deliveredNibbles_frame]

theorem deliveredNibbles_nil : deliveredNibbles [] = [] := rfl

theorem deliveredNibbles_sendBytes (bl last : Bool) (v : Byte) (d : Bool) :
    deliveredNibbles (sendBytes bl last v d) = [(highNibble v, d), (lowNibble v, d)] := by
  unfold sendBytes
  split
  · rw [deliveredNibbles_strobe, deliveredNibbles_strobe, deliveredNibbles_nil]
  · rw [deliveredNibbles_frame, deliveredNibbles_strobe, deliveredNibbles_strobe, deliveredNibbles_nil]

theorem deliveredNibbles_nibbleBytes (bl last : Bool) (n : Nibble) :
    deliveredNibbles (nibbleBytes bl last n) = [(n, false)] := by
  unfold nibbleBytes
  split
  · rw [deliveredNibbles_frame, deliveredNibbles_strobe, deliveredNibbles_nil]
  · rw [deliveredNibbles_strobe, deliveredNibbles_nil]

/-- Settles O15: each strobe delivers its nibble once, and a pre-write delivers nothing. -/
theorem deliveredNibblesOfTransactions : Obligations.DeliveredNibblesOfTransactions := fun s v d n =>
  ⟨_, _, _, _, exec_send v d s, rfl, deliveredNibbles_sendBytes _ _ _ _, exec_sendNibble n s, rfl,
    deliveredNibbles_nibbleBytes _ _ _⟩

/-! ## What the transport leaves (R158) -/

/-- `t` differs from `s` in what the transport writes only: the trace, `lastRS`, the sticky flag and the bus's answers taken. -/
def State.OnlyBusChanged (s t : State) : Prop :=
  t = { s with trace := t.trace, lastRS := t.lastRS, busFault := t.busFault, busAnswers := t.busAnswers, closes := t.closes }

theorem writeNibble_onlyBusChanged (n : Nibble) (d : Bool) (s : State) : s.OnlyBusChanged (writeNibble n d s) := by
  rw [writeNibble_eq]; rfl

theorem internalOp_send_onlyBusChanged (v : Byte) (d : Bool) (s : State) : s.OnlyBusChanged (internalOp (send v d) s) := by
  rw [internalOp_of_transaction (send_eq v d s)]; rfl

theorem internalOp_sendNibble_onlyBusChanged (n : Nibble) (s : State) : s.OnlyBusChanged (internalOp (sendNibble n) s) := by
  rw [internalOp_of_transaction (sendNibble_eq n s)]; rfl

/-- Settles O55: each of these rows is one `send`, one `sendNibble`, one `writeNibble` or one byte. -/
theorem transportFrame : Obligations.TransportFrame := by
  intro i s t hi e
  suffices ∃ u, exec i s = .next u ∧ s.OnlyBusChanged u by
    obtain ⟨u, hu, hframe⟩ := this
    cases hu.symm.trans e
    exact hframe
  cases i with
  | cmdClear | cmdEntryModeSet | cmdDisplayControl | cmdDisplayShift | cmdFunctionSet | cmdSetCgramAddr | cmdSetDdramAddr | cmdNull
  | send => exact ⟨_, rfl, internalOp_send_onlyBusChanged _ _ s⟩
  | cmdForceNibble | sendNibble => exact ⟨_, rfl, internalOp_sendNibble_onlyBusChanged _ s⟩
  | writeNibble n d => exact ⟨_, rfl, writeNibble_onlyBusChanged n d s⟩
  | frame => exact ⟨_, rfl, rfl⟩
  | _ => simp [Instr.format] at hi

end Sys2Proof.Machine
end

section
/-! PROOFS. The character sink (42_character_sink.md): `write` of a byte is the row the byte decodes to, so each escape byte and the
glyph are settled once at their row. The rows are the reset sequence, one cursor move, one glyph, or a fill of glyphs and its
restore. -/

namespace Sys2Proof.Machine

/-! ## `write` and the rows (R180) -/

/-- A byte that is no escape byte is written as a glyph. -/
theorem writeBody_glyph {ch : Byte} (h : ch ∉ escapeBytes) : writeBody ch = glyph ch := by
  simp only [escapeBytes, List.mem_cons, List.not_mem_nil, or_false, not_or] at h
  simp [writeBody, h]

/-- Settles O29: each of the five escape bytes selects the body of its row, and any other byte is a glyph in both tables. -/
theorem writeIsTheDecodedRow : Obligations.WriteIsTheDecodedRow := by
  intro ch s
  by_cases h : ch ∈ escapeBytes
  · have hescapes : ∀ b ∈ escapeBytes, exec (.write b) s = exec (decodeChar b) s := by
      simp only [escapeBytes, List.forall_mem_cons]
      exact ⟨rfl, rfl, rfl, rfl, rfl, nofun⟩
    exact hescapes ch h
  · rw [decodeChar_glyph h]
    change execWrite ch s = execCharGlyph ch s
    rw [execWrite, writeBody_glyph h, execCharGlyph]

/-- What holds of the row a byte decodes to holds of `write` of the byte. -/
theorem exec_row_and_write {ch : Byte} {i : Instr} {s : State} {out : Host.Outcome State Fault Refusal}
    (hrow : decodeChar ch = i) (h : exec i s = out) : exec i s = out ∧ exec (.write ch) s = out :=
  ⟨h, by rw [writeIsTheDecodedRow, hrow, h]⟩

/-- What holds of a glyph holds of `write` of its byte, if that is no escape byte. -/
theorem exec_glyph_and_write {ch : Byte} {s : State} {out : Host.Outcome State Fault Refusal}
    (h : exec (.charGlyph ch) s = out) : exec (.charGlyph ch) s = out ∧ (ch ∉ escapeBytes → exec (.write ch) s = out) :=
  ⟨h, fun hch => (exec_row_and_write (decodeChar_glyph hch) h).2⟩

/-! ## The rows of one sequence or one cursor move (R182, R183, R185, R186) -/

/-- Settles O30: the body of the row is the reset sequence. -/
theorem writeReinitCompletes : Obligations.WriteReinitCompletes := by
  intro s hs hcloses
  exact exec_row_and_write rfl
    (next_hostOp_completes (checkInitialized_of_initialized hs) (reinitialize_done hcloses))

/-- Settles O31: the row moves to (0, 0), its own wrapped position, by the command 0x80. -/
theorem writeHomeCompletes : Obligations.WriteHomeCompletes := by
  intro s hs
  have hcheck := checkInitialized_of_initialized hs
  refine ⟨fun hcol hrow => ?_, fun hmoves hcloses => ?_⟩
  · exact exec_row_and_write rfl (next_hostOp_completes hcheck (setCursor_same ⟨hcol.symm, hrow.symm⟩))
  · have hbody : home s = .done ((s.setCursorPos 0 0).commanded 0x80#8) := by
      rw [home, setCursor_done (by omega) (hcloses 0 Nat.one_pos), Nat.zero_mod, Nat.zero_mod, ddramCmd_zero]
    exact exec_row_and_write rfl (next_hostOp_completes hcheck hbody)

/-- Settles O32: the row held is its own wrapped row, and only the column is compared. -/
theorem carriageReturnCompletes : Obligations.CarriageReturnCompletes := by
  intro s hs hrow
  have hcheck := checkInitialized_of_initialized hs
  refine ⟨fun hcol => ?_, fun hcol hcloses => ?_⟩
  · exact exec_row_and_write rfl (next_hostOp_completes hcheck (setCursor_same ⟨hcol.symm, rfl⟩))
  · have hbody : carriageReturn s = .done ((s.setCursorPos 0 s.cursorRow).commanded (ddramCmd 0 s.cursorRow)) := by
      rw [carriageReturn, setCursor_done (by omega) (hcloses 0 Nat.one_pos), Nat.zero_mod, Nat.mod_eq_of_lt hrow]
    exact exec_row_and_write rfl (next_hostOp_completes hcheck hbody)

/-- Settles O33: before wrapping the next row differs from the row held, so that the command is always sent. -/
theorem lineFeedCompletes : Obligations.LineFeedCompletes := by
  intro s hs hcol hcloses
  have hbody : lineFeed s = .done ((s.setCursorPos s.cursorCol ((s.cursorRow + 1) % s.lines)).commanded
      (ddramCmd s.cursorCol ((s.cursorRow + 1) % s.lines))) := by
    rw [lineFeed, setCursor_done (by omega) (hcloses 0 Nat.one_pos), Nat.mod_eq_of_lt hcol]
  exact exec_row_and_write rfl (next_hostOp_completes (checkInitialized_of_initialized hs) hbody)

/-! ## Glyphs (R187, R188) -/

/-- Settles O34: short of the last column the advance is no command. -/
theorem glyphAdvancesTheColumn : Obligations.GlyphAdvancesTheColumn := by
  intro s ch hs hcol hcloses
  exact exec_glyph_and_write
    (next_hostOp_completes (checkInitialized_of_initialized hs) (glyph_advances hcol (hcloses 0 Nat.one_pos)))

/-- Events after a cursor move leave the cursor there. -/
@[simp] theorem State.setCursorPos_after (s : State) (c r : Nat) (evs : List Event) (n : Nat) (rs : Bool) :
    (s.setCursorPos c r).after evs n rs = (s.after evs n rs).setCursorPos c r := rfl

/-- Of two cursor moves the last one counts. -/
@[simp] theorem State.setCursorPos_setCursorPos (s : State) (c r c' r' : Nat) :
    (s.setCursorPos c r).setCursorPos c' r' = s.setCursorPos c' r' := rfl

/-- A command joins the events before it, also after a cursor move. -/
theorem State.commanded_setCursorPos_after (s : State) (evs : List Event) (n : Nat) (rs : Bool) (c r : Nat) (b : Byte) :
    ((s.after evs n rs).setCursorPos c r).commanded b =
      (s.after (evs ++ sendEvents s.bl rs b false) (n + 1) false).setCursorPos c r :=
  congrArg (·.setCursorPos c r) (s.after_after evs (sendEvents s.bl rs b false) n 1 rs false)

/-- A glyph in the last column whose two closes succeed: the next row differs from the row held before wrapping, so that the
command is always sent. -/
theorem glyph_wraps_done {s : State} {ch : Byte} (h : s.cursorCol + 1 = s.columns) (hcloses : s.ClosesOk 2) :
    glyph ch s = .done ((s.after (sendEvents s.bl s.lastRS ch true
      ++ sendEvents s.bl true (ddramCmd 0 ((s.cursorRow + 1) % s.lines)) false) 2 false).setCursorPos
        0 ((s.cursorRow + 1) % s.lines)) := by
  rw [glyph_wraps h (hcloses 0 Nat.two_pos), setCursor_done, State.commanded_setCursorPos_after]
  · simp
  · simp
  · exact (State.answerAt_after _ _ _ _ _).trans (hcloses 1 Nat.one_lt_two)

/-- Settles O35: the data byte and the wrap's command are the two transactions. -/
theorem glyphWrapsToTheNextRow : Obligations.GlyphWrapsToTheNextRow := by
  intro s ch hs hcol hcloses
  exact exec_glyph_and_write
    (next_hostOp_completes (checkInitialized_of_initialized hs) (glyph_wraps_done hcol hcloses))

/-- The row is below `lines` after every operation that only moves the cursor from a state in its domains, however it ends: body and
draw keep the domains and the geometry. -/
theorem hostOp_cursorRow_lt {check : State → Option Refusal} {ret : Option Nat} {body : State → Run} {s : State}
    (hbody : ∀ {R : State → State → Prop}, StepRel R → (body s).All (R s)) (hs : s.initialized = true) (hdomains : s.InDomains) :
    (hostOp check drawCursor ret body s).cursorRow < s.lines := by
  have holds {R : State → State → Prop} (h : StepRel R) : R s (hostOp check drawCursor ret body s) :=
    h.hostOp h.drawCursor fun _ => hbody h
  obtain ⟨hinit, -, hlines⟩ := holds KeepsGeometry.stepRel hs
  obtain ⟨-, -, -, -, -, hrow⟩ := (holds KeepsDomains.stepRel hdomains).1 hinit
  rwa [hlines] at hrow

/-- Settles O36: past the last cell the row wraps to 0; a row argument at or past `lines` is not the row held, so it is wrapped and
stored; and no outcome leaves the domains. -/
theorem rowsAreCircular : Obligations.RowsAreCircular := by
  refine ⟨fun s ch hs hcol hrow hcloses => ?_, fun s col row hs hdomains hcol0 hcol hrow0 hrow hpast => ?_,
    fun s ch hs hdomains => ⟨_, rfl, hostOp_cursorRow_lt (fun h => h.glyph ch s) hs hdomains⟩⟩
  · have hwrap : (s.cursorRow + 1) % s.lines = 0 := by rw [hrow, Nat.mod_self]
    have hexec := (glyphWrapsToTheNextRow s ch hs hcol hcloses).1
    rw [hwrap, ddramCmd_zero] at hexec
    exact ⟨_, hexec, rfl, rfl, (List.append_assoc _ _ _).symm⟩
  · refine ⟨_, rfl, hostOp_cursorRow_lt (fun h => h.setCursor _ _ s) hs hdomains, fun hcloses => ?_⟩
    obtain ⟨-, -, -, -, -, hheld⟩ := hdomains.1 hs
    have hmoves : ¬(col.toNat = s.cursorCol ∧ row.toNat = s.cursorRow) := by omega
    rw [hostOp_completes (checkArguments_position hs ⟨hcol0, hcol⟩ ⟨hrow0, hrow⟩)
      (setCursor_done hmoves (hcloses 0 Nat.one_pos))]
    simp [hrow0]

/-! ## The fill to the end of the line (R184) -/

/-- The events of `k` spaces that fill a line to its end: one data byte each, then the wrap's command. -/
def State.fillEvents (s : State) (k : Nat) : List Event :=
  dataEvents s.bl s.lastRS (List.replicate k spaceChar) ++ sendEvents s.bl true (ddramCmd 0 ((s.cursorRow + 1) % s.lines)) false

/-- The first space, then the fill of the rest from the next column. -/
theorem State.fillEvents_succ (s : State) (k c : Nat) (evs : List Event) :
    sendEvents s.bl s.lastRS spaceChar true ++ ((s.after evs 1 true).setCursorPos c s.cursorRow).fillEvents k =
      s.fillEvents (k + 1) :=
  (List.append_assoc _ _ _).symm

/-- Filling from a column to the end of its line leaves the cursor at column 0 of the next row. -/
theorem fillSpaces_done (k : Nat) {s : State} (hcol : s.cursorCol + (k + 1) = s.columns) (hcloses : s.ClosesOk (k + 2)) :
    fillSpaces (k + 1) s =
      .done ((s.after (s.fillEvents (k + 1)) (k + 2) false).setCursorPos 0 ((s.cursorRow + 1) % s.lines)) := by
  induction k generalizing s with
  | zero =>
    rw [fillSpaces, glyph_wraps_done hcol hcloses]
    simp [fillSpaces, State.fillEvents, dataEvents]
  | succ k ih =>
    have hshort : s.cursorCol + 1 ≠ s.columns := by omega
    have hcol' : s.cursorCol + 1 + (k + 1) = s.columns := by omega
    have hrest : s.ClosesOk (1 + (k + 2)) := by rwa [Nat.add_comm]
    have hfill := ih (s := (s.after (sendEvents s.bl s.lastRS spaceChar true) 1 true).setCursorPos (s.cursorCol + 1) s.cursorRow)
      hcol' (hrest.after (sendEvents s.bl s.lastRS spaceChar true) true)
    rw [fillSpaces, glyph_advances hshort (hcloses 0 (Nat.succ_pos _)), Run.andThen_done, hfill, State.setCursorPos_after,
      State.after_after, State.fillEvents_succ, Nat.add_comm 1]
    rfl

/-- A cursor move to where the cursor stands. -/
theorem State.setCursorPos_of_stored {s : State} {c r : Nat} (h : c = s.cursorCol ∧ r = s.cursorRow) : s.setCursorPos c r = s := by
  obtain ⟨rfl, rfl⟩ := h; rfl

/-- The restore after a fill has nothing to do exactly on a display of one line, from column 0. -/
theorem restore_stored_iff {s : State} (hrow : s.cursorRow < s.lines) :
    s.cursorCol = 0 ∧ s.cursorRow = (s.cursorRow + 1) % s.lines ↔ s.lines = 1 ∧ s.cursorCol = 0 := by
  obtain hlast | hnext : s.cursorRow + 1 = s.lines ∨ s.cursorRow + 1 < s.lines := by omega
  · rw [hlast, Nat.mod_self]; omega
  · rw [Nat.mod_eq_of_lt hnext]; omega

/-- Settles O37: the fill ends at column 0 of the next row, and from there the restore is a `setCursor` to the start, which lies within
the geometry. -/
theorem clearToEndOfLineCompletes : Obligations.ClearToEndOfLineCompletes := by
  intro s hs hcol hrow
  dsimp only
  intro hcloses
  obtain ⟨k, hk⟩ : ∃ k, s.columns - s.cursorCol = k + 1 := Nat.exists_eq_succ_of_ne_zero (by omega)
  rw [hk] at hcloses ⊢
  refine exec_row_and_write rfl (next_hostOp_completes (checkInitialized_of_initialized hs) ?_)
  have hfill := fillSpaces_done k (s := s) (by omega) fun i hi => hcloses i (by omega)
  rw [clearToEol, hk, hfill, Run.andThen_done]
  by_cases hstays : s.lines = 1 ∧ s.cursorCol = 0
  · obtain ⟨hcol0, hrow0⟩ := (restore_stored_iff hrow).mpr hstays
    have hback : s.setCursorPos 0 ((s.cursorRow + 1) % s.lines) = s := State.setCursorPos_of_stored ⟨hcol0.symm, hrow0.symm⟩
    rw [setCursor_same ⟨hcol0, hrow0⟩, ← State.setCursorPos_after, hback, if_pos hstays, if_pos hstays, List.append_nil]
    rfl
  · rw [if_neg hstays] at hcloses
    have hanswer : s.answerAt (k + 2) = true := hcloses (k + 2) (by omega)
    rw [setCursor_done (mt (restore_stored_iff hrow).mp hstays) (by simpa using hanswer), if_neg hstays, if_neg hstays]
    simp only [State.setCursorPos_columns, State.setCursorPos_lines, State.after_columns, State.after_lines,
      Nat.mod_eq_of_lt hcol, Nat.mod_eq_of_lt hrow, State.setCursorPos_setCursorPos, State.commanded_setCursorPos_after]
    rfl

end Sys2Proof.Machine
end

section
/-! PROOFS. Custom glyphs and the backlight (42_character_sink.md R190 to R192), the value an operation returns (R181), and what
`setBacklight` and `initializeBlock` leave. -/

namespace Sys2Proof.Machine

/-! ## Custom glyphs (R190, R191) -/

/-- The CGRAM command of a slot is the word of the Set-CGRAM row at the slot masked to three bits. -/
theorem cgramCmd_eq_setCgramWord (slot : Nat) : cgramCmd slot = setCgramWord (BitVec.ofNat 3 slot) := by
  have hmask : slot &&& 7 = (BitVec.ofNat 3 slot).toNat := by
    rw [BitVec.toNat_ofNat]; exact Nat.and_two_pow_sub_one_eq_mod slot 3
  have hword : ∀ a : BitVec 3, trunc8 (0x40 ||| (a.toNat <<< 3)) = setCgramWord a := by decide
  rw [cgramCmd, hmask, hword]

theorem setCgramWord_toNat (a : BitVec 3) : (setCgramWord a).toNat = 0x40 + 8 * a.toNat := by
  revert a; decide

/-- Settles O9: the mask `s & 7` is the slot's low three bits, which the row's pattern places above three zeros. -/
theorem cgramByteMasksTheSlot : Obligations.CgramByteMasksTheSlot := by
  intro s
  rw [cgramCmd_eq_setCgramWord]
  exact ⟨setCgramWord_pattern _, by rw [setCgramWord_toNat, BitVec.toNat_ofNat]⟩

/-- Data bytes whose closes all succeed: one transaction each, after which RS = 1 unless there was none. -/
theorem sendAll_done (p : List Byte) {s : State} (hcloses : s.ClosesOk p.length) :
    sendAll p s = .done (s.after (dataEvents s.bl s.lastRS p) p.length (!p.isEmpty || s.lastRS)) := by
  induction p generalizing s with
  | nil => exact congrArg Run.done s.after_nil.symm
  | cons b p ih =>
    have hrest : s.ClosesOk (1 + p.length) := by rwa [Nat.add_comm]
    rw [sendAll, send_done (hcloses 0 (Nat.succ_pos _)), Run.andThen_done, ih (hrest.after _ _), State.after_after, Nat.add_comm]
    simp [dataEvents]

theorem checkCreateChar_inDomain {s : State} {slot : Int} {p : List Byte} (hs : s.initialized = true)
    (hslot : argInDomain slot = true) (hp : patternInDomain p = true) : checkCreateChar slot p s = none := by
  simp [checkCreateChar, hs, hslot, hp]

/-- Settles O38: the command leaves RS = 0, from which the pattern's bytes are sent as data. -/
theorem createCharCompletes : Obligations.CreateCharCompletes := by
  intro s slot p hs hslot0 hslot hp hcloses
  have hcheck := checkCreateChar_inDomain hs ((argInDomain_iff slot).mpr ⟨hslot0, hslot⟩) ((patternInDomain_iff p).mpr hp)
  refine next_hostOp_completes hcheck ?_
  have hrest : (s.commanded (cgramCmd slot.toNat)).ClosesOk p.length := by
    rw [hp]; exact State.ClosesOk.after (n := 1) hcloses _ _
  have hnonempty : p.isEmpty = false := by simp [← List.length_eq_zero_iff, hp]
  rw [createCharBody, command_done (hcloses 0 (by decide)), Run.andThen_done, sendAll_done p hrest, hp, hnonempty, State.commanded,
    State.after_after, (cgramByteMasksTheSlot _).1]
  rfl

/-! ## The backlight (R192) -/

/-- Settles O39: the command is sent from the state that holds the new level, and a failure draws the level only. -/
theorem setBacklightStoresAndSends : Obligations.SetBacklightStoresAndSends := by
  intro s level hs hmin hmax
  have hcheck : checkArguments (levelInDomain level) s = none :=
    checkArguments_inDomain hs ((levelInDomain_iff level).mpr ⟨hmin, hmax⟩)
  refine ⟨fun hcloses => ?_, fun hfail => ?_⟩
  · have hstored : (s.setBacklightLevel level).answerAt 0 = true := hcloses 0 Nat.one_pos
    exact next_hostOp_completes hcheck (command_done hstored nullCmd)
  · have hstored : (s.setBacklightLevel level).answerAt 0 = false := hfail
    obtain ⟨hlow, hhigh⟩ := drawBacklight_inDomain s
    have hexec : exec (.setBacklight level) s = _ := next_hostOp_faults hcheck (command_failed hstored nullCmd)
    exact ⟨_, hlow, hhigh, hexec⟩

/-! ## The value returned (R181) -/

/-- All a `hostOp` can do, with the outcome it hands to the host, if its body and its draw write none. -/
theorem hostOp_cases_results {check : State → Option Refusal} {draw : State → State} {ret : Option Nat} {body : State → Run}
    {s : State} (hb : (body s).All (SameMark s)) (hd : ∀ t, SameMark t (draw t)) :
    (∃ r, hostOp check draw ret body s = s.turnedAway r) ∨
    (∃ t, body s = .done t ∧ hostOp check draw ret body s = t.completed ret ∧
      (t.completed ret).results = s.results ++ [.returned ret]) ∨
    (∃ t, body s = .failed t ∧ hostOp check draw ret body s = busFailure draw t ∧
      (busFailure draw t).results = s.results ++ [.raised .busFailure]) := by
  rcases hostOp_cases check draw ret body s with ⟨r, -, e⟩ | ⟨-, t, hbody, e⟩ | ⟨-, t, hbody, e⟩
  · exact .inl ⟨r, e⟩
  · obtain ⟨-, hresults⟩ : SameMark s t := by rwa [hbody] at hb
    exact .inr (.inl ⟨t, hbody, e, by rw [State.completed_results, hresults]⟩)
  · obtain ⟨-, hresults⟩ : SameMark s t := by rwa [hbody] at hb
    exact .inr (.inr ⟨t, hbody, e, by rw [(busFailure_mark hd t).2, hresults]⟩)

/-- Settles O46: every host operation is one `hostOp` that returns the count or nothing when it completes, and returns no value
otherwise. -/
theorem onlyWriteReturnsAValue : Obligations.OnlyWriteReturnsAValue := by
  intro i s t v hi e hreturned
  obtain ⟨check, draw, body, hexec, hbody, hdraw⟩ := SameMark.opRel.exec_eq_hostOp hi
  cases (hexec s).symm.trans e
  obtain ⟨r, e⟩ | ⟨t, -, e, hresults⟩ | ⟨t, -, e, hresults⟩ := hostOp_cases_results (hbody s) hdraw <;> rw [e] at hreturned
  · exact absurd hreturned (by simp)
  · simpa using hreturned.symm.trans hresults
  · exact absurd (hreturned.symm.trans hresults) (by simp)

/-! ## What `setBacklight` and `initializeBlock` leave (R192, 40_display_state.md R127) -/

/-- What `setBacklight` leaves. -/
def backlightFrame (s : State) :=
  (s.initialized, s.columns, s.lines, s.entryMode, s.displayControl, s.cursorRow, s.cursorCol, s.input)

theorem backlightFrame_offBus : OffBus backlightFrame :=
  ⟨fun _ _ _ _ _ => rfl, fun _ => rfl, fun _ => rfl, fun _ _ => rfl⟩

/-- `setBacklight` writes the level in its body and in its draw, and nothing of its frame. -/
theorem setBacklight_frame {level : Int} {s t : State} (e : exec (.setBacklight level) s = .next t) :
    backlightFrame t = backlightFrame s := by
  cases e
  have h := backlightFrame_offBus.busRel
  have hlevel : backlightFrame (s.setBacklightLevel level) = backlightFrame s := rfl
  exact backlightFrame_offBus.hostOp (fun _ => rfl) (h.before hlevel (h.command _ _))

/-- What the body of `initializeBlock` leaves, however it ends. -/
def initializeFrame (s : State) := (s.backlightLevel, s.input)

theorem initializeBody_frame (c l : Nat) (s : State) : (initializeBody c l s).All fun t => initializeFrame t = initializeFrame s := by
  have hoff : OffBus initializeFrame := ⟨fun _ _ _ _ _ => rfl, fun _ => rfl, fun _ => rfl, fun _ _ => rfl⟩
  have h := hoff.busRel
  have hset : initializeFrame ((((s.setGeometry c l).setEntryMode Config.defaultEntry).setDisplayControl
      Config.defaultDC).setInitialized) = initializeFrame s := rfl
  exact h.before hset (h.reinitialize (fun _ _ _ => rfl) (fun _ _ => rfl) _)

/-- Settles O54: the one update of an initialization that writes the level is the draw of a failed one. -/
theorem backlightAndInitializeFrame : Obligations.BacklightAndInitializeFrame := by
  refine ⟨fun level s t e => ?_, fun c l s t e => ?_⟩
  · simpa only [backlightFrame, Prod.mk.injEq] using setBacklight_frame e
  · cases e
    have hbody := initializeBody_frame c.toNat l.toNat s
    rcases hostOp_cases_results (SameMark.opRel.initializeBody c.toNat l.toNat s) SameMark.opRel.drawInitialize with
      ⟨r, e⟩ | ⟨t, hdone, e, -⟩ | ⟨t, hfailed, e, hresults⟩ <;> rw [e]
    · exact ⟨fun _ => rfl, fun h => by simp at h, rfl⟩
    · rw [hdone] at hbody
      obtain ⟨hlevel, hinput⟩ := Prod.mk.inj hbody
      exact ⟨fun _ => hlevel, fun h => by simp at h, hinput⟩
    · rw [hfailed] at hbody
      obtain ⟨-, hinput⟩ := Prod.mk.inj hbody
      obtain ⟨-, -, hdrawn⟩ := drawInitialize_bus t.setBusFault
      exact ⟨fun h => absurd hresults h, fun _ => drawBacklight_inDomain t.setBusFault, hdrawn.trans hinput⟩

end Sys2Proof.Machine
end

section
/-! PROOFS. The bus failure (60_exceptions.md R212, R214): the body of every host operation puts events on the bus that its state alone
determines, and stops at the first close the bus refuses. A run of a body is compared with a run of the same body on the same state with
other answers of the bus (`RunBeside`); the comparison is proved for one transaction and carried through sequences. -/

namespace Sys2Proof.Machine

/-! ## Pieces that went through and pieces that were cut -/

/-- The same state with other answers of the bus to come. -/
def State.withBus (s : State) (answers : List Bool) (closes : Nat) : State := { s with busAnswers := answers, closes := closes }

/-- What a claim about a bus failure reads of the state. -/
def busReading (s : State) := (s.trace, s.busAnswers, s.closes, s.busFault, s.refused, s.results)

/-- From `s` to `t` the block emitted `evs`, whose closes all succeeded, and took the bus's answers to them. -/
structure Emits (s t : State) (evs : List Event) : Prop where
  trace : t.trace = s.trace ++ evs
  noFailure : evs.any isFailedClose = false
  answers : ∀ k, t.answerAt k = s.answerAt (evs.countP isClose + k)
  busFault : t.busFault = s.busFault
  mark : SameMark s t

/-- From `s` to `t` the block emitted `evs`, whose closes all succeeded, and then a close that the bus refused. -/
structure StopsAt (s t : State) (evs : List Event) : Prop where
  trace : t.trace = s.trace ++ evs ++ [.txEnd false]
  noFailure : evs.any isFailedClose = false
  answer : s.answerAt (evs.countP isClose) = false
  busFault : t.busFault = s.busFault
  mark : SameMark s t

variable {s t u : State} {evs evs' : List Event}

/-- An update of fields that the claim does not read emits nothing. -/
theorem Emits.silent (h : busReading t = busReading s) : Emits s t [] := by
  obtain ⟨htrace, hanswers, hcloses, hfault, hmark⟩ : _ ∧ _ ∧ _ ∧ _ ∧ SameMark s t := by
    simpa only [busReading, SameMark, Prod.mk.injEq] using h
  refine ⟨by simp [htrace], rfl, fun k => ?_, hfault, hmark⟩
  simpa using State.answerAt_congr hanswers hcloses k

theorem Emits.trans (h : Emits s t evs) (h' : Emits t u evs') : Emits s u (evs ++ evs') where
  trace := by rw [h'.trace, h.trace, List.append_assoc]
  noFailure := by rw [List.any_append, h.noFailure, h'.noFailure]; rfl
  answers k := by rw [h'.answers, h.answers, List.countP_append, Nat.add_assoc]
  busFault := h'.busFault.trans h.busFault
  mark := SameMark.opRel.trans h.mark h'.mark

theorem Emits.stopsAt (h : Emits s t evs) (h' : StopsAt t u evs') : StopsAt s u (evs ++ evs') where
  trace := by rw [h'.trace, h.trace, List.append_assoc s.trace]
  noFailure := by rw [List.any_append, h.noFailure, h'.noFailure]; rfl
  answer := by rw [List.countP_append, ← h.answers, h'.answer]
  busFault := h'.busFault.trans h.busFault
  mark := SameMark.opRel.trans h.mark h'.mark

/-! ## One piece under two buses -/

/-- How a piece ends from `s`, beside a run `other` of the same piece from `s` with other answers of the bus: either it went through, and
`other` differs from it in the answers to come only, if it went through too; or it was cut at a refused close, and `other`, if it went
through, has the same events up to that close. -/
inductive RunBeside (s : State) (other : Run) : Run → Prop
  | done {t : State} {evs : List Event} (emits : Emits s t evs)
      (same : ∀ u, other = .done u → ∃ answers closes, u = t.withBus answers closes) : RunBeside s other (.done t)
  | failed {t : State} {evs : List Event} (stops : StopsAt s t evs)
      (shared : ∀ u, other = .done u → s.trace ++ evs ++ [.txEnd true] <+: u.trace) : RunBeside s other (.failed t)

/-- The events of a piece are determined by the state but for the bus's answers, and it stops at the first refused close. -/
def BusDriven (body : State → Run) : Prop := ∀ s answers closes, RunBeside s (body (s.withBus answers closes)) (body s)

namespace RunBeside

variable {other r : Run}

/-- Nothing is claimed of another run that was cut. -/
theorem of_failed (h : RunBeside s other r) (u : State) : RunBeside s (.failed u) r := by
  cases h with
  | done emits _ => exact .done emits nofun
  | failed stops _ => exact .failed stops nofun

/-- What was emitted before a piece comes before the events of both runs. -/
theorem before (h : Emits s t evs) (hr : RunBeside t other r) : RunBeside s other r := by
  cases hr with
  | done emits same => exact .done (h.trans emits) same
  | failed stops shared =>
    refine .failed (h.stopsAt stops) fun u hu => ?_
    rw [← List.append_assoc, ← h.trace]
    exact shared u hu

/-- The trace only grows, however the piece ends. -/
theorem trace_prefix (h : RunBeside s other r) : r.All fun t => s.trace <+: t.trace := by
  cases h with
  | done emits _ => exact ⟨_, emits.trace.symm⟩
  | failed stops _ => exact ⟨_, by rw [stops.trace, List.append_assoc]⟩

theorem sameMark (h : RunBeside s other r) : r.All (SameMark s) := by
  cases h with
  | done emits _ => exact emits.mark
  | failed stops _ => exact stops.mark

/-- A sequence: where the first piece is cut, what the other run does after it only lengthens that run's trace. -/
theorem andThen (h : RunBeside s other r) {f : State → Run} (hf : BusDriven f) :
    RunBeside s (other.andThen f) (r.andThen f) := by
  cases h with
  | @done t _ emits same =>
    refine before emits ?_
    cases other with
    | done u =>
      obtain ⟨answers, closes, rfl⟩ := same u rfl
      exact hf t answers closes
    | failed u => exact (hf t t.busAnswers t.closes).of_failed u
  | failed stops shared =>
    refine .failed stops fun u hu => ?_
    obtain ⟨v, hother, hv⟩ := Run.andThen_eq_done_iff.mp hu
    have hgrows : v.trace <+: u.trace := by
      have h := (hf v v.busAnswers v.closes).trace_prefix
      rwa [hv] at h
    exact (shared v hother).trans hgrows

end RunBeside

/-! ## Updates between the transactions -/

/-- An update that no answer of the bus changes and that closes no transaction. -/
structure BusFree (f : State → State) : Prop where
  emits : ∀ s, ∃ evs, Emits s (f s) evs
  bus : ∀ s answers closes, f (s.withBus answers closes) = (f s).withBus answers closes

theorem BusFree.silent {f : State → State} (hf : ∀ s, busReading (f s) = busReading s)
    (hbus : ∀ s answers closes, f (s.withBus answers closes) = (f s).withBus answers closes) : BusFree f :=
  ⟨fun s => ⟨[], .silent (hf s)⟩, hbus⟩

theorem BusFree.id : BusFree id := silent (fun _ => rfl) fun _ _ _ => rfl

theorem BusFree.wait (us : Nat) : BusFree (wait us) where
  emits s := by
    have hanswers (k : Nat) : (Machine.wait us s).answerAt k = s.answerAt k := State.answerAt_congr rfl rfl k
    exact ⟨[.wait us], rfl, rfl, fun k => by simp [hanswers, isClose], rfl, rfl, rfl⟩
  bus _ _ _ := rfl

theorem BusFree.comp {f g : State → State} (hg : BusFree g) (hf : BusFree f) : BusFree fun s => g (f s) where
  emits s := by
    obtain ⟨_, hfirst⟩ := hf.emits s
    obtain ⟨_, hsecond⟩ := hg.emits (f s)
    exact ⟨_, hfirst.trans hsecond⟩
  bus s answers closes := by rw [hf.bus, hg.bus]

/-! ## The bodies of the host operations -/

theorem SeqTx.emits (tx : SeqTx) (s : State) (rs : Bool) : Emits s (s.after (tx.events true) 1 rs) (tx.events true) where
  trace := rfl
  noFailure := by rw [tx.events_eq, List.any_append, tx.opened_noFailure]; rfl
  answers k := by rw [State.answerAt_after, tx.events_eq, List.countP_append, tx.opened_noClose]; rfl
  busFault := rfl
  mark := ⟨rfl, rfl⟩

theorem SeqTx.stopsAt (tx : SeqTx) (ha : s.answerAt 0 = false) (rs : Bool) :
    StopsAt s (s.after (tx.events false) 1 rs) tx.opened where
  trace := by rw [State.after_trace, tx.events_eq, List.append_assoc]
  noFailure := tx.opened_noFailure
  answer := by rw [tx.opened_noClose, ha]
  busFault := rfl
  mark := ⟨rfl, rfl⟩

/-- Run one transaction that ends on the register select `rs`: `runTx` for either of them. -/
def transact (tx : SeqTx) (rs : Bool) (s : State) : Run :=
  if s.answerAt 0 then .done (s.after (tx.events true) 1 rs) else .failed (s.after (tx.events false) 1 rs)

theorem transact_done {tx : SeqTx} {rs : Bool} (h : transact tx rs s = .done t) : t = s.after (tx.events true) 1 rs := by
  unfold transact at h
  split at h <;> cases h
  rfl

theorem send_eq_transact (v : Byte) (d : Bool) (s : State) : send v d s = transact ⟨[], sendBytes s.bl s.lastRS v d⟩ d s :=
  send_eq v d s

theorem sendNibble_eq_transact (n : Nibble) (s : State) :
    sendNibble n s = transact ⟨[], nibbleBytes s.bl s.lastRS n⟩ false s := sendNibble_eq n s

namespace BusDriven

/-- The one event of a transaction that depends on the bus is its close. -/
theorem transact (tx : SeqTx) (rs : Bool) : BusDriven (transact tx rs) := fun s answers closes => by
  cases ha : s.answerAt 0 with
  | true =>
    rw [show Machine.transact tx rs s = .done (s.after (tx.events true) 1 rs) from if_pos ha]
    exact .done (tx.emits s rs) fun _ hu => ⟨answers.drop 1, closes + 1, transact_done hu⟩
  | false =>
    rw [show Machine.transact tx rs s = .failed (s.after (tx.events false) 1 rs) from if_neg (by simp [ha])]
    refine .failed (tx.stopsAt ha rs) fun u hu => ?_
    rw [transact_done hu, List.append_assoc, ← tx.events_eq]
    exact List.prefix_rfl

theorem send (v : Byte) (d : Bool) : BusDriven (send v d) := fun s answers closes => by
  rw [send_eq_transact, send_eq_transact]
  exact transact _ d s answers closes

theorem command (b : Byte) : BusDriven (command b) := send b false

theorem sendNibble (n : Nibble) : BusDriven (sendNibble n) := fun s answers closes => by
  rw [sendNibble_eq_transact, sendNibble_eq_transact]
  exact transact _ false s answers closes

theorem update {f : State → State} (hf : BusFree f) : BusDriven fun s => .done (f s) := fun s answers closes => by
  obtain ⟨_, hemits⟩ := hf.emits s
  exact .done hemits fun _ hu => ⟨answers, closes, (Run.done.inj hu).symm.trans (hf.bus s answers closes)⟩

theorem done : BusDriven .done := update .id

theorem afterUpdate {body : State → Run} (hbody : BusDriven body) {f : State → State} (hf : BusFree f) :
    BusDriven fun s => body (f s) := fun s answers closes => by
  obtain ⟨_, hemits⟩ := hf.emits s
  dsimp only
  rw [hf.bus]
  exact (hbody (f s) answers closes).before hemits

/-- The byte of a command after an update may read the state before it. -/
theorem commandAfter {f : State → State} (hf : BusFree f) {b : State → Byte}
    (hb : ∀ s answers closes, b (s.withBus answers closes) = b s) : BusDriven fun s => Machine.command (b s) (f s) :=
  fun s answers closes => by
    dsimp only
    rw [hb]
    exact (command (b s)).afterUpdate hf s answers closes

theorem andThen {f g : State → Run} (hf : BusDriven f) (hg : BusDriven g) : BusDriven fun s => (f s).andThen g :=
  fun s answers closes => (hf s answers closes).andThen hg

theorem thenUpdate {f : State → Run} (hf : BusDriven f) {g : State → State} (hg : BusFree g) :
    BusDriven fun s => (f s).thenUpdate g := hf.andThen (update hg)

theorem ite {f g : State → Run} (hf : BusDriven f) {p : State → Prop} [DecidablePred p]
    (hp : ∀ s answers closes, p (s.withBus answers closes) ↔ p s) (hg : BusDriven g) :
    BusDriven fun s => if p s then f s else g s := fun s answers closes => by
  dsimp only
  by_cases h : p s
  · rw [if_pos h, if_pos ((hp s answers closes).mpr h)]
    exact hf s answers closes
  · rw [if_neg h, if_neg (mt (hp s answers closes).mp h)]
    exact hg s answers closes

theorem setCursor (c r : Nat) : BusDriven (setCursor c r) :=
  have hwrap : BusFree fun s => s.setCursorPos (c % s.columns) (r % s.lines) := .silent (fun _ => rfl) fun _ _ _ => rfl
  have hmove := commandAfter hwrap (b := fun s => ddramCmd (c % s.columns) (r % s.lines)) fun _ _ _ => rfl
  done.ite (p := fun s => c = s.cursorCol ∧ r = s.cursorRow) (fun _ _ _ => Iff.rfl) hmove

theorem carriageReturn : BusDriven carriageReturn := fun s => setCursor 0 s.cursorRow s

theorem lineFeed : BusDriven lineFeed := fun s => setCursor s.cursorCol (s.cursorRow + 1) s

theorem glyph (ch : Byte) : BusDriven (glyph ch) :=
  have hwrap : BusDriven fun s => Machine.setCursor 0 (s.cursorRow + 1) s := fun s => setCursor 0 (s.cursorRow + 1) s
  have hadvance : BusFree fun s => s.setCursorPos (s.cursorCol + 1) s.cursorRow := .silent (fun _ => rfl) fun _ _ _ => rfl
  (send ch true).andThen
    (hwrap.ite (p := fun s => s.cursorCol + 1 = s.columns) (fun _ _ _ => Iff.rfl) (update hadvance))

theorem fillSpaces (k : Nat) : BusDriven (fillSpaces k) := by
  induction k with
  | zero => exact done
  | succ k ih => exact (glyph spaceChar).andThen ih

theorem clearToEol : BusDriven clearToEol := fun s answers closes =>
  (fillSpaces (s.columns - s.cursorCol) s answers closes).andThen (setCursor s.cursorCol s.cursorRow)

theorem reinitialize : BusDriven reinitialize := by
  have horigin : BusFree fun s => s.setCursorPos 0 0 := .silent (fun _ => rfl) fun _ _ _ => rfl
  have hfinish : BusFree fun s => (wait Config.settle2 s).setCursorPos 0 0 := horigin.comp (.wait Config.settle2)
  refine (command clearCmd).andThen ?_
  refine (sendNibble Config.nibble4bit).andThen ?_
  refine (commandAfter (.wait Config.settle1) (b := fun s => functionSetCmd s.lines) fun _ _ _ => rfl).andThen ?_
  refine (commandAfter .id (b := fun s => entryModeCmd s.entryMode) fun _ _ _ => rfl).andThen ?_
  refine (commandAfter .id (b := fun s => displayControlCmd s.displayControl) fun _ _ _ => rfl).andThen ?_
  exact (command clearCmd).thenUpdate hfinish

theorem initializeBody (c l : Nat) : BusDriven (initializeBody c l) :=
  have hset : BusFree fun s => (((s.setGeometry c l).setEntryMode Config.defaultEntry).setDisplayControl
    Config.defaultDC).setInitialized := .silent (fun _ => rfl) fun _ _ _ => rfl
  reinitialize.afterUpdate hset

theorem mutateDisplayControl (f : Byte → Byte) : BusDriven (mutateDisplayControl f) :=
  have hset : BusFree fun s => s.setDisplayControl (f s.displayControl) := .silent (fun _ => rfl) fun _ _ _ => rfl
  commandAfter hset (b := fun s => displayControlCmd (f s.displayControl)) fun _ _ _ => rfl

theorem mutateEntryMode (f : Byte → Byte) : BusDriven (mutateEntryMode f) :=
  have hset : BusFree fun s => s.setEntryMode (f s.entryMode) := .silent (fun _ => rfl) fun _ _ _ => rfl
  commandAfter hset (b := fun s => entryModeCmd (f s.entryMode)) fun _ _ _ => rfl

theorem setBacklightBody (level : Int) : BusDriven (setBacklightBody level) :=
  have hset : BusFree fun s => s.setBacklightLevel level := .silent (fun _ => rfl) fun _ _ _ => rfl
  (command nullCmd).afterUpdate hset

theorem sendAll (p : List Byte) : BusDriven (sendAll p) := by
  induction p with
  | nil => exact done
  | cons b p ih => exact (send b true).andThen ih

theorem createCharBody (slot : Nat) (p : List Byte) : BusDriven (createCharBody slot p) := (command _).andThen (sendAll p)

theorem writeBody (ch : Byte) : BusDriven (writeBody ch) := by
  unfold Machine.writeBody
  repeat' split
  · exact reinitialize
  · exact setCursor 0 0
  · exact clearToEol
  · exact carriageReturn
  · exact lineFeed
  · exact glyph ch

end BusDriven

/-! ## Draws (60_exceptions.md R213) -/

theorem drawCursor_reading (s : State) : busReading (drawCursor s) = busReading s := rfl

theorem drawEntryMode_reading (s : State) : busReading (drawEntryMode s) = busReading s := rfl

theorem drawDisplayControl_reading (s : State) : busReading (drawDisplayControl s) = busReading s := rfl

theorem drawBacklight_reading (s : State) : busReading (drawBacklight s) = busReading s := rfl

theorem drawGeometry_reading (s : State) : busReading (drawGeometry s) = busReading s := rfl

theorem drawInitialize_reading (s : State) : busReading (drawInitialize s) = busReading s := by
  rw [drawInitialize, drawCursor_reading, drawDisplayControl_reading, drawEntryMode_reading, drawGeometry_reading,
    drawBacklight_reading]

/-! ## Every host operation -/

/-- Every host operation is one `hostOp` whose body is driven by the bus and whose draw leaves what the bus and the host see. -/
theorem exec_eq_hostOp_busDriven {i : Instr} (hi : i.fromHost = true) :
    ∃ (check : State → Option Refusal) (draw : State → State) (ret : Option Nat) (body : State → Run),
      (∀ s, exec i s = .next (hostOp check draw ret body s)) ∧ BusDriven body ∧ ∀ s, busReading (draw s) = busReading s := by
  cases i with
  | initializeBlock c l => exact ⟨_, _, _, _, fun _ => rfl, .initializeBody _ _, drawInitialize_reading⟩
  | reinitialize | charReinit => exact ⟨_, _, _, _, fun _ => rfl, .reinitialize, drawCursor_reading⟩
  | home | charHome => exact ⟨_, _, _, _, fun _ => rfl, .setCursor 0 0, drawCursor_reading⟩
  | setCursor col row => exact ⟨_, _, _, _, fun _ => rfl, .setCursor _ _, drawCursor_reading⟩
  | displayOn | displayOff | cursorOn | cursorOff | blinkOn | blinkOff =>
    exact ⟨_, _, _, _, fun _ => rfl, .mutateDisplayControl _, drawDisplayControl_reading⟩
  | leftToRight | rightToLeft | autoscrollOn | autoscrollOff =>
    exact ⟨_, _, _, _, fun _ => rfl, .mutateEntryMode _, drawEntryMode_reading⟩
  | scrollLeft | scrollRight => exact ⟨_, _, _, _, fun _ => rfl, .command _, fun _ => rfl⟩
  | setBacklight level => exact ⟨_, _, _, _, fun _ => rfl, .setBacklightBody level, drawBacklight_reading⟩
  | createChar slot p => exact ⟨_, _, _, _, fun _ => rfl, .createCharBody _ p, fun _ => rfl⟩
  | write ch => exact ⟨_, _, _, _, fun _ => rfl, .writeBody ch, drawCursor_reading⟩
  | charClrEol => exact ⟨_, _, _, _, fun _ => rfl, .clearToEol, drawCursor_reading⟩
  | charCr => exact ⟨_, _, _, _, fun _ => rfl, .carriageReturn, drawCursor_reading⟩
  | charLf => exact ⟨_, _, _, _, fun _ => rfl, .lineFeed, drawCursor_reading⟩
  | charGlyph c => exact ⟨_, _, _, _, fun _ => rfl, .glyph c, drawCursor_reading⟩
  | _ => exact nomatch hi

theorem BusDriven.sameMark {body : State → Run} (h : BusDriven body) (s : State) : (body s).All (SameMark s) :=
  (h s s.busAnswers s.closes).sameMark

theorem BusDriven.emits {body : State → Run} (h : BusDriven body) (hdone : body s = .done t) : ∃ evs, Emits s t evs := by
  have hrun := h s s.busAnswers s.closes
  rw [hdone] at hrun
  cases hrun with
  | done emits _ => exact ⟨_, emits⟩

theorem BusDriven.stopsAt {body : State → Run} (h : BusDriven body) (hfailed : body s = .failed t) (answers : List Bool)
    (closes : Nat) : ∃ evs, StopsAt s t evs ∧
      ∀ u, body (s.withBus answers closes) = .done u → s.trace ++ evs ++ [.txEnd true] <+: u.trace := by
  have hrun := h s answers closes
  rw [hfailed] at hrun
  cases hrun with
  | failed stops shared => exact ⟨_, stops, shared⟩

/-- A failure whose draw leaves what the bus and the host see leaves the trace and sets the sticky flag. -/
theorem busFailure_reading {draw : State → State} (hdraw : ∀ s, busReading (draw s) = busReading s) (t : State) :
    (busFailure draw t).trace = t.trace ∧ (busFailure draw t).busFault = true := by
  have h := hdraw t.setBusFault
  simp only [busReading, Prod.mk.injEq] at h
  obtain ⟨htrace, -, -, hfault, -⟩ := h
  exact ⟨htrace, hfault⟩

theorem sameMark_of_busReading {draw : State → State} (hdraw : ∀ s, busReading (draw s) = busReading s) (t : State) :
    SameMark t (draw t) := (Emits.silent (hdraw t)).mark

/-- Settles O45: a body that goes through has only successful closes, and one that is cut ends with the refused close. -/
theorem busFailureEndsTheOperation : Obligations.BusFailureEndsTheOperation := by
  intro i s hi
  obtain ⟨check, draw, ret, body, hexec, hbody, hdraw⟩ := exec_eq_hostOp_busDriven hi
  rw [hexec s]
  obtain ⟨r, e⟩ | ⟨t, hdone, e, hresults⟩ | ⟨t, hfailed, e, hresults⟩ :=
    hostOp_cases_results (draw := draw) (ret := ret) (check := check) (hbody.sameMark s) (sameMark_of_busReading hdraw) <;> rw [e]
  · exact ⟨_, [], .refused r, rfl, by simp, rfl, .inl ⟨rfl, nofun, rfl⟩⟩
  · obtain ⟨evs, hemits⟩ := hbody.emits hdone
    exact ⟨_, evs, .returned ret, rfl, hemits.trace, hresults, .inl ⟨hemits.noFailure, nofun, hemits.busFault⟩⟩
  · obtain ⟨evs, hstops, -⟩ := hbody.stopsAt hfailed s.busAnswers s.closes
    obtain ⟨htrace, hfault⟩ := busFailure_reading hdraw t
    refine ⟨_, evs ++ [.txEnd false], .raised .busFailure, rfl, ?_, hresults, .inr ⟨evs, rfl, hstops.noFailure, rfl, hfault⟩⟩
    rw [htrace, hstops.trace, List.append_assoc]

section

variable {check : State → Option Refusal} {draw : State → State} {ret : Option Nat} {body : State → Run}

/-- The outcome "bus failure" comes from a body that was cut. -/
theorem hostOp_failed_of_results (hb : (body s).All (SameMark s)) (hd : ∀ t, SameMark t (draw t))
    (h : (hostOp check draw ret body s).results = s.results ++ [.raised .busFailure]) :
    ∃ t, body s = .failed t ∧ hostOp check draw ret body s = busFailure draw t := by
  obtain ⟨r, e⟩ | ⟨t, -, e, hresults⟩ | ⟨t, hfailed, e, -⟩ := hostOp_cases_results (check := check) (ret := ret) hb hd
  · rw [e] at h; simp at h
  · rw [e, hresults] at h; simp at h
  · exact ⟨t, hfailed, e⟩

/-- The outcome "completed" comes from a body that went through. -/
theorem hostOp_done_of_results (hb : (body s).All (SameMark s)) (hd : ∀ t, SameMark t (draw t)) {v : Option Nat}
    (h : (hostOp check draw ret body s).results = s.results ++ [.returned v]) :
    ∃ t, body s = .done t ∧ hostOp check draw ret body s = t.completed ret := by
  obtain ⟨r, e⟩ | ⟨t, hdone, e, -⟩ | ⟨t, -, e, hresults⟩ := hostOp_cases_results (check := check) (ret := ret) hb hd
  · rw [e] at h; simp at h
  · exact ⟨t, hdone, e⟩
  · rw [e, hresults] at h; simp at h

end

/-- Settles O60: the outcomes say that the body was cut in the one run and went through in the other. -/
theorem abortedOperationIsCutAtItsFailedClose : Obligations.AbortedOperationIsCutAtItsFailedClose := by
  intro i s t u answers closes v hi et ht eu hu
  obtain ⟨check, draw, ret, body, hexec, hbody, hdraw⟩ := exec_eq_hostOp_busDriven hi
  have hmark := sameMark_of_busReading hdraw
  cases (hexec _).symm.trans et
  cases (hexec _).symm.trans eu
  obtain ⟨t, hfailed, e⟩ := hostOp_failed_of_results (hbody.sameMark s) hmark ht
  obtain ⟨u, hdone, e'⟩ := hostOp_done_of_results (hbody.sameMark _) hmark hu
  obtain ⟨evs, hstops, hshared⟩ := hbody.stopsAt hfailed answers closes
  obtain ⟨rest, hrest⟩ := hshared u hdone
  obtain ⟨htrace, -⟩ := busFailure_reading hdraw t
  refine ⟨evs, rest, ?_, hstops.noFailure, hstops.answer, ?_⟩
  · rw [e, htrace, hstops.trace]
  · rw [e', State.completed_trace, ← hrest, List.append_assoc (s.trace ++ evs)]
    rfl

end Sys2Proof.Machine
end

section
/-! PROOFS. Waits (70_reset_and_hazards.md R245, 41_nibble_transport.md R159): the count of waits in the trace is a reading that no
transaction, mark or outcome changes, and outside the reset sequence every body is made of transactions and updates of other fields. -/

namespace Sys2Proof.Machine

/-- The waits emitted so far. -/
def waitCount (s : State) : Nat := s.trace.countP isWait

theorem waitCount_offBus : OffBus waitCount where
  tx s bs ok _ _ := by
    rw [waitCount, State.after_trace, List.countP_append, List.countP_eq_length_filter (l := txEvents bs ok), txEvents_noWait]
    rfl
  busFault _ := rfl
  refused _ := rfl
  outcome _ _ := rfl

/-- An operation of the transport keeps a reading that its body keeps, however its close ends. -/
theorem OffBus.internalOp {α : Type} {f : State → α} (h : OffBus f) {body : State → Run} {s : State}
    (hb : (body s).All fun t => f t = f s) : f (internalOp body s) = f s := by
  rcases internalOp_cases body s with ⟨t, e, e'⟩ | ⟨t, e, e'⟩ <;> rw [e'] <;> rw [e] at hb
  · exact hb
  · exact (h.busFault t).trans hb

/-- A byte on the bus is no wait. -/
theorem txByte_waitCount (b : Byte) (s : State) : waitCount (txByte b s) = waitCount s := by
  simp [waitCount, txByte, State.emit, isWait]

theorem writeNibble_waitCount (n : Nibble) (d : Bool) (s : State) : waitCount (writeNibble n d s) = waitCount s := by
  rw [writeNibble_eq]
  by_cases h : d = s.lastRS <;> simp [waitCount, h, isWait]

/-- Settles O49: outside the reset sequence a body is made of transactions, after at most an update of fields other than the trace. -/
theorem onlyTheResetSequenceWaits : Obligations.OnlyTheResetSequenceWaits := by
  intro i s t hi e
  have h := waitCount_offBus.busRel
  have hmove (u : State) (c r : Nat) : waitCount (u.setCursorPos c r) = waitCount u := rfl
  have hset (c r : Nat) := h.setCursor hmove c r s
  have hcommandAfter {u : State} (hu : waitCount u = waitCount s) (b : Byte) :
      (command b u).All fun v => waitCount v = waitCount s := h.before hu (h.command b u)
  have hdisplayControl (f : Byte → Byte) : (mutateDisplayControl f s).All fun u => waitCount u = waitCount s :=
    hcommandAfter (u := s.setDisplayControl (f s.displayControl)) rfl _
  have hentryMode (f : Byte → Byte) : (mutateEntryMode f s).All fun u => waitCount u = waitCount s :=
    hcommandAfter (u := s.setEntryMode (f s.entryMode)) rfl _
  suffices ∃ u, exec i s = .next u ∧ waitCount u = waitCount s by
    obtain ⟨u, hu, hcount⟩ := this
    cases hu.symm.trans e
    exact hcount
  have host {check : State → Option Refusal} {draw : State → State} {ret : Option Nat} {body : State → Run}
      (hd : ∀ u, waitCount (draw u) = waitCount u) (hb : (body s).All fun u => waitCount u = waitCount s) :
      ∃ u, (.next (hostOp check draw ret body s) : Host.Outcome State Fault Refusal) = .next u ∧ waitCount u = waitCount s :=
    ⟨_, rfl, waitCount_offBus.hostOp hd hb⟩
  cases i with
  | initializeBlock | reinitialize | charReinit => exact absurd hi (by simp [runsReset])
  | home | charHome => exact host (fun _ => rfl) (hset 0 0)
  | setCursor col row => exact host (fun _ => rfl) (hset _ _)
  | displayOn | displayOff | cursorOn | cursorOff | blinkOn | blinkOff =>
    exact host (fun _ => rfl) (hdisplayControl _)
  | leftToRight | rightToLeft | autoscrollOn | autoscrollOff =>
    exact host (fun _ => rfl) (hentryMode _)
  | setBacklight level => exact host (fun _ => rfl) (hcommandAfter (u := s.setBacklightLevel level) rfl _)
  | scrollLeft | scrollRight => exact host (fun _ => rfl) (h.command _ s)
  | createChar slot p => exact host (fun _ => rfl) (h.createChar _ p s)
  | write ch =>
    have hch : ch ≠ 0x01#8 := by rintro rfl; exact absurd hi (by decide)
    exact host (fun _ => rfl) (h.write_of_ne_reinit hmove hch s)
  | charClrEol => exact host (fun _ => rfl) (h.clearToEol hmove s)
  | charCr => exact host (fun _ => rfl) (hset 0 s.cursorRow)
  | charLf => exact host (fun _ => rfl) (hset s.cursorCol (s.cursorRow + 1))
  | charGlyph ch => exact host (fun _ => rfl) (h.glyph hmove ch s)
  | cmdForceNibble | sendNibble => exact ⟨_, rfl, waitCount_offBus.internalOp (h.sendNibble _ s)⟩
  | frame => exact ⟨_, rfl, txByte_waitCount _ s⟩
  | writeNibble n d => exact ⟨_, rfl, writeNibble_waitCount n d s⟩
  | cmdClear | cmdEntryModeSet | cmdDisplayControl | cmdDisplayShift | cmdFunctionSet | cmdSetCgramAddr | cmdSetDdramAddr | cmdNull
  | send => exact ⟨_, rfl, waitCount_offBus.internalOp (h.send _ _ s)⟩

end Sys2Proof.Machine
end

section
/-! PROOFS. The modes and `write` (70_reset_and_hazards.md R247, 42_character_sink.md R187 (a)): a body that consults neither mode
commutes with replacing both. A transaction and a cursor move do, so does every body made of them: each of `write` but the reset
sequence. -/

namespace Sys2Proof.Machine

/-- The same state with other modes. -/
def State.withModes (s : State) (em dc : Byte) : State := { s with entryMode := em, displayControl := dc }

/-- The same end of a piece, with other modes. -/
def Run.withModes (em dc : Byte) : Run → Run
  | .done s => .done (s.withModes em dc)
  | .failed s => .failed (s.withModes em dc)

/-- What a piece does is the same whatever the modes are, and it leaves both. -/
def ModeBlind (body : State → Run) : Prop := ∀ s em dc, body (s.withModes em dc) = (body s).withModes em dc

/-- A piece after one that ends the same but for the modes. -/
theorem Run.withModes_andThen {em dc : Byte} {r r' : Run} (hr : r' = r.withModes em dc) {g : State → Run} (hg : ModeBlind g) :
    r'.andThen g = (r.andThen g).withModes em dc := by
  subst hr
  cases r with
  | done s => exact hg s em dc
  | failed s => rfl

namespace ModeBlind

theorem send (v : Byte) (d : Bool) : ModeBlind (send v d) := fun s em dc => by
  have hanswer : (s.withModes em dc).answerAt 0 = s.answerAt 0 := State.answerAt_congr rfl rfl 0
  cases ha : s.answerAt 0 with
  | true => rw [send_done ha, send_done (hanswer.trans ha)]; rfl
  | false => rw [send_failed ha, send_failed (hanswer.trans ha)]; rfl

/-- A command whose byte, and an update before it, consult no mode. -/
theorem commandAfter {b : State → Byte} {f : State → State} (hb : ∀ s em dc, b (s.withModes em dc) = b s)
    (hf : ∀ s em dc, f (s.withModes em dc) = (f s).withModes em dc) : ModeBlind fun s => command (b s) (f s) :=
  fun s em dc => by
    dsimp only
    rw [hb, hf]
    exact send (b s) false (f s) em dc

theorem ite {f g : State → Run} (hf : ModeBlind f) {p : State → Prop} [DecidablePred p]
    (hp : ∀ s em dc, p (s.withModes em dc) ↔ p s) (hg : ModeBlind g) : ModeBlind fun s => if p s then f s else g s :=
  fun s em dc => by
    dsimp only
    by_cases h : p s
    · rw [if_pos h, if_pos ((hp s em dc).mpr h)]
      exact hf s em dc
    · rw [if_neg h, if_neg (mt (hp s em dc).mp h)]
      exact hg s em dc

theorem done : ModeBlind .done := fun _ _ _ => rfl

theorem setCursor (c r : Nat) : ModeBlind (setCursor c r) :=
  have hmove := commandAfter (b := fun s => ddramCmd (c % s.columns) (r % s.lines))
    (f := fun s => s.setCursorPos (c % s.columns) (r % s.lines)) (fun _ _ _ => rfl) fun _ _ _ => rfl
  done.ite (p := fun s => c = s.cursorCol ∧ r = s.cursorRow) (fun _ _ _ => Iff.rfl) hmove

theorem glyph (ch : Byte) : ModeBlind (glyph ch) := fun s em dc =>
  have hwrap : ModeBlind fun s => Machine.setCursor 0 (s.cursorRow + 1) s := fun s => setCursor 0 (s.cursorRow + 1) s
  have hadvance : ModeBlind fun s => .done (s.setCursorPos (s.cursorCol + 1) s.cursorRow) := fun _ _ _ => rfl
  Run.withModes_andThen (send ch true s em dc)
    (hwrap.ite (p := fun s => s.cursorCol + 1 = s.columns) (fun _ _ _ => Iff.rfl) hadvance)

theorem fillSpaces (k : Nat) : ModeBlind (fillSpaces k) := by
  induction k with
  | zero => exact done
  | succ k ih => exact fun s em dc => Run.withModes_andThen (glyph spaceChar s em dc) ih

/-- The count of the fill and the position restored are read from the cursor and the geometry. -/
theorem clearToEol : ModeBlind clearToEol := fun s em dc =>
  Run.withModes_andThen (fillSpaces (s.columns - s.cursorCol) s em dc) (setCursor s.cursorCol s.cursorRow)

theorem carriageReturn : ModeBlind carriageReturn := fun s => setCursor 0 s.cursorRow s

theorem lineFeed : ModeBlind lineFeed := fun s => setCursor s.cursorCol (s.cursorRow + 1) s

theorem write_of_ne_reinit {ch : Byte} (hn : ch ≠ 0x01#8) : ModeBlind (writeBody ch) := by
  unfold writeBody
  rw [if_neg hn]
  repeat' split
  · exact setCursor 0 0
  · exact clearToEol
  · exact carriageReturn
  · exact lineFeed
  · exact glyph ch

/-- A host operation whose checks, body and draw do not consult the modes, whether it is refused, completes or fails. -/
theorem hostOp {check : State → Option Refusal} {draw : State → State} {ret : Option Nat} {body : State → Run}
    (hbody : ModeBlind body) (hcheck : ∀ s em dc, check (s.withModes em dc) = check s)
    (hdraw : ∀ s em dc, draw (s.withModes em dc) = (draw s).withModes em dc) (s : State) (em dc : Byte) :
    hostOp check draw ret body (s.withModes em dc) = (hostOp check draw ret body s).withModes em dc := by
  have hbody := hbody s em dc
  have hcheck := hcheck s em dc
  rcases hostOp_cases check draw ret body s with ⟨r, hc, e⟩ | ⟨hc, t, hb, e⟩ | ⟨hc, t, hb, e⟩ <;> rw [e]
  · exact hostOp_refused draw ret body (hcheck.trans hc)
  · rw [hb] at hbody
    exact hostOp_completes (hcheck.trans hc) hbody
  · rw [hb] at hbody
    rw [hostOp_faults (hcheck.trans hc) hbody]
    exact congrArg (fun u : State => u.pushOutcome (.raised .busFailure)) (hdraw t.setBusFault em dc)

end ModeBlind

/-- Settles O40: every body of `write` but the reset sequence consults no mode, and neither the check nor the draw does. -/
theorem writeApartFromReinitNeverConsultsTheModes : Obligations.WriteApartFromReinitNeverConsultsTheModes := by
  intro s t ch em dc hn e
  cases e
  have hblind := ModeBlind.write_of_ne_reinit hn
  exact congrArg Host.Outcome.next (hblind.hostOp (fun _ _ _ => rfl) (fun _ _ _ => rfl) s em dc)

end Sys2Proof.Machine
end
